-- ==== Sys2Proof/Word.lean ====
section
/-! DEFINITION. The two word types of the machine (spec/00_scope.md section 6 "Numbers", rule R4): a byte is 8 bits, a word is 16
bits, both unsigned bit patterns whose arithmetic wraps. -/

namespace Sys2Proof

/-- 8 bits: a register cell, a memory cell, an instruction byte. -/
abbrev Byte := BitVec 8

/-- 16 bits: an address, SP, PC, a register pair. -/
abbrev Word := BitVec 16

end Sys2Proof
end

