-- ==== Sys2Proof/Machine/Bits.lean ====
section
/-! DEFINITION. Bit fields, byte order and sign extension (spec/00_scope.md section 6, notation). -/

namespace Sys2Proof

/-- `v[15:8]`. -/
def hi8 (w : Word) : Byte := w.extractLsb' 8 8

/-- `v[7:0]`. -/
def lo8 (w : Word) : Byte := w.extractLsb' 0 8

/-- `{hi, lo}`: the word `hi*256 + lo`. -/
def cat (hi lo : Byte) : Word := hi ++ lo

/-- `zext_16(v)`. -/
def zext16 (v : Byte) : Word := v.setWidth 16

/-- `sext_16(v)`: `v` if `v < 0x80`, else `0xFF00 + v`. -/
def sext16 (v : Byte) : Word := if v.toNat < 0x80 then zext16 v else 0xFF00 + zext16 v

/-- `v[3:0]` as a number. -/
def lowNibble (v : Byte) : Nat := v.toNat % 16

/-- `v[i]`, bit 0 the least significant. -/
def bitAt (v : Byte) (i : Nat) : Bool := v.getLsbD i

/-- `v | (1 << i)` (R186). -/
def setBitAt (v : Byte) (i : Nat) : Byte := v ||| ((1 : Byte) <<< i)

/-- `v & (0xFF ^ (1 << i))` (R185). -/
def clearBitAt (v : Byte) (i : Nat) : Byte := v &&& ((0xFF : Byte) ^^^ ((1 : Byte) <<< i))

/-- Bit `i` becomes `b`, the others keep their value. -/
def putBit (v : Byte) (i : Nat) (b : Bool) : Byte := if b then setBitAt v i else clearBitAt v i

end Sys2Proof
end

