-- ==== Sys2Proof/Config.lean ====
section
/-! DEFINITION. The named parameters of rule R4 (spec/00_scope.md section 4, spec/92_eei_decisions.md) with their defaults, the launch
registers, and the one free value of the machine. "A model takes the parameters as arguments": they are plain data, held read-only in
State (notes/assumptions/3.md), so one model covers every choice the spec allows. -/

namespace Sys2Proof

/-- `CART_RAM` (R4, R34, D11): is 0xA000 to 0xBFFF backed by 8192 read/write bytes. -/
inductive CartRam where
  | present
  | absent
  deriving DecidableEq, Repr

/-- `WORD_AT_FFFF` (R4, R45, D8): where the high byte of a word access at 0xFFFF goes. -/
inductive WordAtFFFF where
  | unmapped
  | wrap
  deriving DecidableEq, Repr

/-- `ILLEGAL_POLICY` (R4, R72, R225, D14): what the eleven unassigned primary opcodes do. -/
inductive IllegalPolicy where
  | nop
  | fault
  deriving DecidableEq, Repr

/-- `STOP_LENGTH` (R4, R73, R221, D15): 1 or 2 bytes. -/
inductive StopLength where
  | one
  | two
  deriving DecidableEq, Repr

/-- `LDHL_FLAGS` (R4, R124, D18): does LDHL SP,e8 write the flags. -/
inductive LdhlFlags where
  | hardware
  | unaffected
  deriving DecidableEq, Repr

/-- The policy parameters of R4, each with the default the spec gives it. The other parameters of R4 are `ROM` and `MEM_INIT` (the
bytes of memory at power-on) and `LAUNCH_REGS` (`Launch`): see `State.powerOn`. -/
structure Params where
  cartRam : CartRam := .present
  wordAtFFFF : WordAtFFFF := .unmapped
  illegalPolicy : IllegalPolicy := .nop
  stopLength : StopLength := .one
  ldhlFlags : LdhlFlags := .hardware
  deriving DecidableEq, Repr

/-- Every parameter at its default (R4). -/
def Params.default : Params := {}

/-- `LAUNCH_REGS` (R4, R21, D5): the register values at the first step. The defaults are the reset values of R21. -/
structure Launch where
  a : Byte := 0x00
  f : Byte := 0x00
  b : Byte := 0x00
  c : Byte := 0x00
  d : Byte := 0x00
  e : Byte := 0x00
  h : Byte := 0x00
  l : Byte := 0x00
  sp : Word := 0x0000
  pc : Word := 0x0000
  halted : Bool := false
  ime : Bool := false
  deriving DecidableEq, Repr

/-- Which of the byte reads of one step a read is: the three instruction bytes of `decode` (R61), and the one or two data bytes an
instruction reads (R48). It tells the draws of one step apart. -/
inductive ReadSlot where
  | fetch0
  | fetch1
  | fetch2
  | data0
  | data1
  deriving DecidableEq, Repr

/-- THE FREE VALUE of the model (R34, U4, D11; notes/assumptions/4.md): what a read of 0xA000 to 0xBFFF returns when `CART_RAM` is
absent, "a draw per read". It has no body: nothing can be proved of its values. -/
opaque Config.freeByte : Nat → ReadSlot → Byte

end Sys2Proof
end

