-- ==== Sys2Proof/Machine/State.lean ====
section
/-! DEFINITION. The state of the machine (spec/10_state.md section 1), its value after reset (R21, R260), and the reasons a step can stop. -/

namespace Sys2Proof.Machine

/-- Memory: the bytes of the backing arrays of R17, of cartridge RAM (R34) and of the cartridge ROM (R33), as (address, byte) pairs in the
one canonical form `Memory.wf`. A cell is listed under the one address that R31 routes to its array; the echo (R37) lists nothing
(notes/assumptions/5.md). -/
abbrev Memory := List Host.Cell

/-- A command on the interrupt-controller port: the outputs `int_enable` and `int_disable` (R7, R244). -/
inductive PortCommand where
  | intEnable
  | intDisable
  deriving DecidableEq, Repr

/-- Everything a step can read or write: the table of spec/10_state.md section 1, and three fields that are not in it: `commands`, the
output of the interrupt-controller port (R7, R266), `params` (R4, never written) and the model's own counter `draws`. -/
structure State where
  /-- A, the accumulator (R10). -/
  a : Byte
  /-- F, the flags Z N H C in bits 7..4, bits 3..0 zero (R11). -/
  f : Byte
  b : Byte
  c : Byte
  d : Byte
  e : Byte
  h : Byte
  l : Byte
  /-- SP (R13). -/
  sp : Word
  /-- PC: during an instruction the address of its first byte, `here` (R14). -/
  pc : Word
  /-- The engine is Halted (R16). -/
  halted : Bool
  /-- The mirror of the last command on the interrupt-controller port (R243). -/
  ime : Bool
  /-- The command stream of R244 that the interrupt-controller port has put out since power-on, oldest first: what R266 returns to the
  interrupt controller. Written by the port, read by nothing in the block (notes/assumptions/13.md). -/
  commands : List PortCommand
  /-- The backing arrays, cartridge RAM and ROM (R17, R33, R34). -/
  mem : Memory
  /-- The policy parameters (R4): read by the step, written by nothing (notes/assumptions/3.md). -/
  params : Params
  /-- The model's own: the number of steps made with `CART_RAM` absent; it makes each read there a fresh draw of `Config.freeByte`
  (R34, U4; notes/assumptions/4.md). -/
  draws : Nat
  deriving DecidableEq, Repr

/-- The only stop of the machine. -/
inductive Fault where
  /-- The report `decode_failure(here, opcode)` of R225, raised by the eleven `ILLEGAL` rows under `ILLEGAL_POLICY = fault` (D14) and by
  nothing else. The step changes no state and every later step reports the same. Safe: it is what the spec says. -/
  | decodeFailure (here : Word) (opcode : Byte)
  deriving DecidableEq, Repr

/-- An instruction without a meaning. -/
inductive Refusal where
  /-- Raised by `exec` for an instruction that has no meaning yet; none is left. Safe: it stops where the hardware goes on. -/
  | notModelled (mnemonic : String)
  deriving DecidableEq, Repr

/-- What a meaning answers. -/
abbrev Outcome := Host.Outcome State Fault Refusal

/-- Power-on (R260, R266): the parameters, the bytes in memory (`ROM` and `MEM_INIT`) and the launch registers (`LAUNCH_REGS`) are
arguments; no command has been issued yet. -/
def State.powerOn (p : Params) (mem : Memory) (r : Launch) : State :=
  { a := r.a, f := r.f, b := r.b, c := r.c, d := r.d, e := r.e, h := r.h, l := r.l, sp := r.sp, pc := r.pc, halted := r.halted,
    ime := r.ime, commands := [], mem := mem, params := p, draws := 0 }

/-- The machine right after reset: the table of R21, every parameter at its default, memory with nothing listed (`MEM_INIT` all 0x00, D4;
for the ROM bytes see notes/assumptions/1.md). -/
def State.reset : State :=
  { a := 0x00, f := 0x00, b := 0x00, c := 0x00, d := 0x00, e := 0x00, h := 0x00, l := 0x00, sp := 0x0000, pc := 0x0000,
    halted := false, ime := false, commands := [], mem := [], params := Params.default, draws := 0 }

end Sys2Proof.Machine
end

