-- ==== Sys2Proof/Machine/Memory.lean ====
section
/-! DEFINITION. The address map (spec/20_memory.md R31, R32) and the one list that holds every cell. -/

namespace Sys2Proof.Machine

/-- The targets of the routing table R31; the echo (range 6) is no target of its own, it goes to working RAM. -/
inductive Region where
  | rom
  | vram
  | cram
  | wram0
  | wram1
  | oam
  | unmapped
  | io
  | hram
  | ie
  deriving DecidableEq, Repr

/-- Echo RAM (R37): an address in 0xE000 to 0xFDFF stands for the address 0x2000 below it. -/
def unecho (a : Word) : Word := if 0xE000 ≤ a.toNat ∧ a.toNat ≤ 0xFDFF then a - 0x2000 else a

/-- The ranges of R31, for an address that is no echo. -/
def rangeOf (n : Nat) : Region :=
  if n ≤ 0x7FFF then .rom
  else if n ≤ 0x9FFF then .vram
  else if n ≤ 0xBFFF then .cram
  else if n ≤ 0xCFFF then .wram0
  else if n ≤ 0xDFFF then .wram1
  else if n ≤ 0xFE9F then .oam
  else if n ≤ 0xFEFF then .unmapped
  else if n ≤ 0xFF7F then .io
  else if n ≤ 0xFFFE then .hram
  else .ie

/-- Where the router sends an address (R31). -/
def region (a : Word) : Region := rangeOf (unecho a).toNat

/-- The key under which the list of cells holds the cell an address reaches. -/
def cellOf (a : Word) : Nat := (unecho a).toNat

/-- Is `n` the key of a cell: an address of the map that is neither echo (R37) nor unmapped (R39). -/
def isCell (n : Nat) : Bool := n ≤ 0xDFFF ∨ (0xFE00 ≤ n ∧ n ≤ 0xFE9F) ∨ (0xFF00 ≤ n ∧ n ≤ 0xFFFF)

/-- What a cell that the list does not name reads as: `MEM_INIT`'s default 0x00 (R21, D4); for a ROM byte a choice of the model
(notes/assumptions/1.md and 2.md). -/
def unlistedByte : Byte := 0x00

/-- The byte of cell `n`. -/
def Memory.get (m : Memory) (n : Nat) : Byte :=
  match m with
  | [] => unlistedByte
  | (k, v) :: rest => if k = n then v else Memory.get rest n

/-- The list without the cell `n`. -/
def Memory.erase (m : Memory) (n : Nat) : Memory :=
  match m with
  | [] => []
  | (k, v) :: rest => if k = n then Memory.erase rest n else (k, v) :: Memory.erase rest n

/-- The list with the cell `n`, not yet listed, put before the first larger key. -/
def Memory.insert (m : Memory) (n : Nat) (v : Byte) : Memory :=
  match m with
  | [] => [(n, v)]
  | (k, w) :: rest => if n < k then (n, v) :: (k, w) :: rest else (k, w) :: Memory.insert rest n v

/-- Cell `n` becomes `v`; a cell that reads as an unlisted one is not listed. -/
def Memory.set (m : Memory) (n : Nat) (v : Byte) : Memory :=
  if v = unlistedByte then m.erase n else (m.erase n).insert n v

/-- Every key is above `lo`, and the keys rise strictly. -/
def Memory.sortedAbove (lo : Option Nat) (m : Memory) : Bool :=
  match m with
  | [] => true
  | (k, _) :: rest => (match lo with | none => true | some n => decide (n < k)) && Memory.sortedAbove (some k) rest

/-- The canonical form: keys strictly rising, each key a cell, no entry equal to what an unlisted cell reads as. -/
def Memory.wf (m : Memory) : Bool :=
  Memory.sortedAbove none m && m.all fun c => isCell c.1 && (c.2 ≠ unlistedByte)

/-- Bytes put into consecutive cells from key `n` on: how a ROM image, `MEM_INIT` or a program is laid into memory from outside. -/
def Memory.load (m : Memory) (n : Nat) (bytes : List Byte) : Memory :=
  match bytes with
  | [] => m
  | v :: rest => Memory.load (m.set n v) (n + 1) rest

end Sys2Proof.Machine
end

