-- ==== Sys2Proof/Syntax.lean ====
section
/-! DEFINITION. The syntax of instructions. `Instr` has one constructor per row of spec/opcode_table.json, named as rule R70
or R71 writes the row (`Xm` stands for `(X)`, a memory operand; the eleven ILLEGAL rows are told apart by their byte). `Variant` is the typed union of rule R74
(spec/30_encoding.md): the same instructions by mnemonic and operand shape. -/

namespace Sys2Proof

/-- The eight byte registers (R10). -/
inductive Reg8 where
  | A | F | B | C | D | E | H | L
  deriving DecidableEq, Repr

/-- The four pairs (R12) and the two 16-bit cells (R13, R14). -/
inductive Reg16 where
  | AF | BC | DE | HL | SP | PC
  deriving DecidableEq, Repr

/-- The flags of F, bits 7, 6, 5, 4 (R11). -/
inductive Flag where
  | Z | N | H | C
  deriving DecidableEq, Repr

/-- Table `cc` (R66). -/
inductive Cond where
  | NZ | Z | NC | C
  deriving DecidableEq, Repr

/-- Table `r` (R64), the spec's `loc8`: a byte register or the memory byte at `xx[HL]`. -/
inductive Loc8 where
  | reg (r : Reg8)
  | HLm
  deriving DecidableEq, Repr

/-- Table `alu` (R67). -/
inductive AluOp where
  | ADD | ADC | SUB | SBC | AND | XOR | OR | CP
  deriving DecidableEq, Repr

/-- Table `rot` (R68). -/
inductive RotOp where
  | RLC | RRC | RL | RR | SLA | SRA | SWAP | SRL
  deriving DecidableEq, Repr

/-- The instruction variants of R74, under the spec's names. The `_r` and `_HLm` shapes of one operation are one alternative `_s` here,
its operand a `Loc8`; the eight ALU operations and the eight CB rotates are told apart by `AluOp` and `RotOp`. Which operands a variant
admits is `Variant.wellFormed`. -/
inductive Variant where
  | LD_r_r (rd rs : Reg8)
  | LD_r_d8 (r : Reg8) (d : Byte)
  | LD_r_HLm (r : Reg8)
  | LD_HLm_r (r : Reg8)
  | LD_HLm_d8 (d : Byte)
  | LD_A_BC
  | LD_A_DE
  | LD_BC_A
  | LD_DE_A
  | LD_A_a16 (a : Word)
  | LD_a16_A (a : Word)
  | LDH_A_C
  | LDH_C_A
  | LDH_A_a8 (o : Byte)
  | LDH_a8_A (o : Byte)
  | LDI_A_HL
  | LDI_HL_A
  | LDD_A_HL
  | LDD_HL_A
  | LD_rr_d16 (rr : Reg16) (d : Word)
  | LD_a16_SP (a : Word)
  | LD_SP_HL
  | LDHL_SP_e8 (e : Byte)
  | PUSH_rr (rr : Reg16)
  | POP_rr (rr : Reg16)
  | POP_AF
  | ALU_s (op : AluOp) (s : Loc8)
  | ALU_d8 (op : AluOp) (d : Byte)
  | INC_s (s : Loc8)
  | DEC_s (s : Loc8)
  | DAA
  | CPL
  | SCF
  | CCF
  | ADD_HL_rr (rr : Reg16)
  | ADD_SP_e8 (e : Byte)
  | INC_rr (rr : Reg16)
  | DEC_rr (rr : Reg16)
  | RLCA
  | RLA
  | RRCA
  | RRA
  | ROT_s (op : RotOp) (s : Loc8)
  | BIT_b_s (b : BitVec 3) (s : Loc8)
  | RES_b_s (b : BitVec 3) (s : Loc8)
  | SET_b_s (b : BitVec 3) (s : Loc8)
  | JP_a16 (a : Word)
  | JP_cc_a16 (cc : Cond) (a : Word)
  | JP_HL
  | JR_e8 (e : Byte)
  | JR_cc_e8 (cc : Cond) (e : Byte)
  | CALL_a16 (a : Word)
  | CALL_cc_a16 (cc : Cond) (a : Word)
  | RET
  | RET_cc (cc : Cond)
  | RETI
  | RST (t : Byte)
  | NOP
  | STOP
  | HALT
  | DI
  | EI
  | ILLEGAL (op : Byte)
  deriving DecidableEq, Repr

/-- One constructor per row of spec/opcode_table.json (R78): first the rows with an immediate, then the others, each in the table's order
(Lean's runtime wants constructors with fields first). `d` is d8 or d16, `o` is a8, `e` is e8, `a` is a16 (R69). -/
inductive Instr where
  | LD_BC_d16 (d : Word)
  | LD_B_d8 (d : Byte)
  | LD_a16m_SP (a : Word)
  | LD_C_d8 (d : Byte)
  | LD_DE_d16 (d : Word)
  | LD_D_d8 (d : Byte)
  | JR_e8 (e : Byte)
  | LD_E_d8 (d : Byte)
  | JR_NZ_e8 (e : Byte)
  | LD_HL_d16 (d : Word)
  | LD_H_d8 (d : Byte)
  | JR_Z_e8 (e : Byte)
  | LD_L_d8 (d : Byte)
  | JR_NC_e8 (e : Byte)
  | LD_SP_d16 (d : Word)
  | LD_HLm_d8 (d : Byte)
  | JR_C_e8 (e : Byte)
  | LD_A_d8 (d : Byte)
  | JP_NZ_a16 (a : Word)
  | JP_a16 (a : Word)
  | CALL_NZ_a16 (a : Word)
  | ADD_A_d8 (d : Byte)
  | JP_Z_a16 (a : Word)
  | CALL_Z_a16 (a : Word)
  | CALL_a16 (a : Word)
  | ADC_A_d8 (d : Byte)
  | JP_NC_a16 (a : Word)
  | CALL_NC_a16 (a : Word)
  | SUB_d8 (d : Byte)
  | JP_C_a16 (a : Word)
  | CALL_C_a16 (a : Word)
  | SBC_A_d8 (d : Byte)
  | LDH_a8m_A (o : Byte)
  | AND_d8 (d : Byte)
  | ADD_SP_e8 (e : Byte)
  | LD_a16m_A (a : Word)
  | XOR_d8 (d : Byte)
  | LDH_A_a8m (o : Byte)
  | OR_d8 (d : Byte)
  | LDHL_SP_e8 (e : Byte)
  | LD_A_a16m (a : Word)
  | CP_d8 (d : Byte)
  | NOP
  | LD_BCm_A
  | INC_BC
  | INC_B
  | DEC_B
  | RLCA
  | ADD_HL_BC
  | LD_A_BCm
  | DEC_BC
  | INC_C
  | DEC_C
  | RRCA
  | STOP
  | LD_DEm_A
  | INC_DE
  | INC_D
  | DEC_D
  | RLA
  | ADD_HL_DE
  | LD_A_DEm
  | DEC_DE
  | INC_E
  | DEC_E
  | RRA
  | LDI_HLm_A
  | INC_HL
  | INC_H
  | DEC_H
  | DAA
  | ADD_HL_HL
  | LDI_A_HLm
  | DEC_HL
  | INC_L
  | DEC_L
  | CPL
  | LDD_HLm_A
  | INC_SP
  | INC_HLm
  | DEC_HLm
  | SCF
  | ADD_HL_SP
  | LDD_A_HLm
  | DEC_SP
  | INC_A
  | DEC_A
  | CCF
  | LD_B_B
  | LD_B_C
  | LD_B_D
  | LD_B_E
  | LD_B_H
  | LD_B_L
  | LD_B_HLm
  | LD_B_A
  | LD_C_B
  | LD_C_C
  | LD_C_D
  | LD_C_E
  | LD_C_H
  | LD_C_L
  | LD_C_HLm
  | LD_C_A
  | LD_D_B
  | LD_D_C
  | LD_D_D
  | LD_D_E
  | LD_D_H
  | LD_D_L
  | LD_D_HLm
  | LD_D_A
  | LD_E_B
  | LD_E_C
  | LD_E_D
  | LD_E_E
  | LD_E_H
  | LD_E_L
  | LD_E_HLm
  | LD_E_A
  | LD_H_B
  | LD_H_C
  | LD_H_D
  | LD_H_E
  | LD_H_H
  | LD_H_L
  | LD_H_HLm
  | LD_H_A
  | LD_L_B
  | LD_L_C
  | LD_L_D
  | LD_L_E
  | LD_L_H
  | LD_L_L
  | LD_L_HLm
  | LD_L_A
  | LD_HLm_B
  | LD_HLm_C
  | LD_HLm_D
  | LD_HLm_E
  | LD_HLm_H
  | LD_HLm_L
  | HALT
  | LD_HLm_A
  | LD_A_B
  | LD_A_C
  | LD_A_D
  | LD_A_E
  | LD_A_H
  | LD_A_L
  | LD_A_HLm
  | LD_A_A
  | ADD_A_B
  | ADD_A_C
  | ADD_A_D
  | ADD_A_E
  | ADD_A_H
  | ADD_A_L
  | ADD_A_HLm
  | ADD_A_A
  | ADC_A_B
  | ADC_A_C
  | ADC_A_D
  | ADC_A_E
  | ADC_A_H
  | ADC_A_L
  | ADC_A_HLm
  | ADC_A_A
  | SUB_B
  | SUB_C
  | SUB_D
  | SUB_E
  | SUB_H
  | SUB_L
  | SUB_HLm
  | SUB_A
  | SBC_A_B
  | SBC_A_C
  | SBC_A_D
  | SBC_A_E
  | SBC_A_H
  | SBC_A_L
  | SBC_A_HLm
  | SBC_A_A
  | AND_B
  | AND_C
  | AND_D
  | AND_E
  | AND_H
  | AND_L
  | AND_HLm
  | AND_A
  | XOR_B
  | XOR_C
  | XOR_D
  | XOR_E
  | XOR_H
  | XOR_L
  | XOR_HLm
  | XOR_A
  | OR_B
  | OR_C
  | OR_D
  | OR_E
  | OR_H
  | OR_L
  | OR_HLm
  | OR_A
  | CP_B
  | CP_C
  | CP_D
  | CP_E
  | CP_H
  | CP_L
  | CP_HLm
  | CP_A
  | RET_NZ
  | POP_BC
  | PUSH_BC
  | RST_0x00
  | RET_Z
  | RET
  | RST_0x08
  | RET_NC
  | POP_DE
  | ILLEGAL_D3
  | PUSH_DE
  | RST_0x10
  | RET_C
  | RETI
  | ILLEGAL_DB
  | ILLEGAL_DD
  | RST_0x18
  | POP_HL
  | LDH_Cm_A
  | ILLEGAL_E3
  | ILLEGAL_E4
  | PUSH_HL
  | RST_0x20
  | JP_HLm
  | ILLEGAL_EB
  | ILLEGAL_EC
  | ILLEGAL_ED
  | RST_0x28
  | POP_AF
  | LDH_A_Cm
  | DI
  | ILLEGAL_F4
  | PUSH_AF
  | RST_0x30
  | LD_SP_HL
  | EI
  | ILLEGAL_FC
  | ILLEGAL_FD
  | RST_0x38
  | RLC_B
  | RLC_C
  | RLC_D
  | RLC_E
  | RLC_H
  | RLC_L
  | RLC_HLm
  | RLC_A
  | RRC_B
  | RRC_C
  | RRC_D
  | RRC_E
  | RRC_H
  | RRC_L
  | RRC_HLm
  | RRC_A
  | RL_B
  | RL_C
  | RL_D
  | RL_E
  | RL_H
  | RL_L
  | RL_HLm
  | RL_A
  | RR_B
  | RR_C
  | RR_D
  | RR_E
  | RR_H
  | RR_L
  | RR_HLm
  | RR_A
  | SLA_B
  | SLA_C
  | SLA_D
  | SLA_E
  | SLA_H
  | SLA_L
  | SLA_HLm
  | SLA_A
  | SRA_B
  | SRA_C
  | SRA_D
  | SRA_E
  | SRA_H
  | SRA_L
  | SRA_HLm
  | SRA_A
  | SWAP_B
  | SWAP_C
  | SWAP_D
  | SWAP_E
  | SWAP_H
  | SWAP_L
  | SWAP_HLm
  | SWAP_A
  | SRL_B
  | SRL_C
  | SRL_D
  | SRL_E
  | SRL_H
  | SRL_L
  | SRL_HLm
  | SRL_A
  | BIT_0_B
  | BIT_0_C
  | BIT_0_D
  | BIT_0_E
  | BIT_0_H
  | BIT_0_L
  | BIT_0_HLm
  | BIT_0_A
  | BIT_1_B
  | BIT_1_C
  | BIT_1_D
  | BIT_1_E
  | BIT_1_H
  | BIT_1_L
  | BIT_1_HLm
  | BIT_1_A
  | BIT_2_B
  | BIT_2_C
  | BIT_2_D
  | BIT_2_E
  | BIT_2_H
  | BIT_2_L
  | BIT_2_HLm
  | BIT_2_A
  | BIT_3_B
  | BIT_3_C
  | BIT_3_D
  | BIT_3_E
  | BIT_3_H
  | BIT_3_L
  | BIT_3_HLm
  | BIT_3_A
  | BIT_4_B
  | BIT_4_C
  | BIT_4_D
  | BIT_4_E
  | BIT_4_H
  | BIT_4_L
  | BIT_4_HLm
  | BIT_4_A
  | BIT_5_B
  | BIT_5_C
  | BIT_5_D
  | BIT_5_E
  | BIT_5_H
  | BIT_5_L
  | BIT_5_HLm
  | BIT_5_A
  | BIT_6_B
  | BIT_6_C
  | BIT_6_D
  | BIT_6_E
  | BIT_6_H
  | BIT_6_L
  | BIT_6_HLm
  | BIT_6_A
  | BIT_7_B
  | BIT_7_C
  | BIT_7_D
  | BIT_7_E
  | BIT_7_H
  | BIT_7_L
  | BIT_7_HLm
  | BIT_7_A
  | RES_0_B
  | RES_0_C
  | RES_0_D
  | RES_0_E
  | RES_0_H
  | RES_0_L
  | RES_0_HLm
  | RES_0_A
  | RES_1_B
  | RES_1_C
  | RES_1_D
  | RES_1_E
  | RES_1_H
  | RES_1_L
  | RES_1_HLm
  | RES_1_A
  | RES_2_B
  | RES_2_C
  | RES_2_D
  | RES_2_E
  | RES_2_H
  | RES_2_L
  | RES_2_HLm
  | RES_2_A
  | RES_3_B
  | RES_3_C
  | RES_3_D
  | RES_3_E
  | RES_3_H
  | RES_3_L
  | RES_3_HLm
  | RES_3_A
  | RES_4_B
  | RES_4_C
  | RES_4_D
  | RES_4_E
  | RES_4_H
  | RES_4_L
  | RES_4_HLm
  | RES_4_A
  | RES_5_B
  | RES_5_C
  | RES_5_D
  | RES_5_E
  | RES_5_H
  | RES_5_L
  | RES_5_HLm
  | RES_5_A
  | RES_6_B
  | RES_6_C
  | RES_6_D
  | RES_6_E
  | RES_6_H
  | RES_6_L
  | RES_6_HLm
  | RES_6_A
  | RES_7_B
  | RES_7_C
  | RES_7_D
  | RES_7_E
  | RES_7_H
  | RES_7_L
  | RES_7_HLm
  | RES_7_A
  | SET_0_B
  | SET_0_C
  | SET_0_D
  | SET_0_E
  | SET_0_H
  | SET_0_L
  | SET_0_HLm
  | SET_0_A
  | SET_1_B
  | SET_1_C
  | SET_1_D
  | SET_1_E
  | SET_1_H
  | SET_1_L
  | SET_1_HLm
  | SET_1_A
  | SET_2_B
  | SET_2_C
  | SET_2_D
  | SET_2_E
  | SET_2_H
  | SET_2_L
  | SET_2_HLm
  | SET_2_A
  | SET_3_B
  | SET_3_C
  | SET_3_D
  | SET_3_E
  | SET_3_H
  | SET_3_L
  | SET_3_HLm
  | SET_3_A
  | SET_4_B
  | SET_4_C
  | SET_4_D
  | SET_4_E
  | SET_4_H
  | SET_4_L
  | SET_4_HLm
  | SET_4_A
  | SET_5_B
  | SET_5_C
  | SET_5_D
  | SET_5_E
  | SET_5_H
  | SET_5_L
  | SET_5_HLm
  | SET_5_A
  | SET_6_B
  | SET_6_C
  | SET_6_D
  | SET_6_E
  | SET_6_H
  | SET_6_L
  | SET_6_HLm
  | SET_6_A
  | SET_7_B
  | SET_7_C
  | SET_7_D
  | SET_7_E
  | SET_7_H
  | SET_7_L
  | SET_7_HLm
  | SET_7_A
  deriving DecidableEq, Repr

end Sys2Proof
end

