-- ==== Sys2Proof/Machine/Ops.lean ====
section
/-! DEFINITION. The named operations over the register file (R11, R12, R15), the bus (R31, R32, R43 to R47), PC (R14, R19) and the two ports.
TAKING AN EXCEPTION is no operation of this machine: "There is no exception cause, no cause code, no faulting-address or instruction-bits
record, and no handler entry" (R240), trap entry and return do not exist (R248, R249), and no interrupt is dispatched (R246). -/

namespace Sys2Proof.Machine

/-! ## Register file -/

/-- `get8(name)`, `x[r]` (R15). -/
def State.get8 (s : State) : Reg8 → Byte
  | .A => s.a
  | .F => s.f
  | .B => s.b
  | .C => s.c
  | .D => s.d
  | .E => s.e
  | .H => s.h
  | .L => s.l

/-- `set8(name, value)`, `x[r] <- v`; a write to F stores `v & 0xF0` (R11, R15, D16). -/
def State.set8 (s : State) (r : Reg8) (v : Byte) : State :=
  match r with
  | .A => { s with a := v }
  | .F => { s with f := v &&& 0xF0 }
  | .B => { s with b := v }
  | .C => { s with c := v }
  | .D => { s with d := v }
  | .E => { s with e := v }
  | .H => { s with h := v }
  | .L => { s with l := v }

/-- `get16(pair)`, `xx[p]`: the four pairs are views, the first-named register the high byte (R12, R15). -/
def State.get16 (s : State) : Reg16 → Word
  | .AF => cat s.a s.f
  | .BC => cat s.b s.c
  | .DE => cat s.d s.e
  | .HL => cat s.h s.l
  | .SP => s.sp
  | .PC => s.pc

/-- `set16(pair, value)`, `xx[p] <- w`: writes through to the two byte registers, F masked (R11, R12, R15). -/
def State.set16 (s : State) (p : Reg16) (w : Word) : State :=
  match p with
  | .AF => (s.set8 .A (hi8 w)).set8 .F (lo8 w)
  | .BC => (s.set8 .B (hi8 w)).set8 .C (lo8 w)
  | .DE => (s.set8 .D (hi8 w)).set8 .E (lo8 w)
  | .HL => (s.set8 .H (hi8 w)).set8 .L (lo8 w)
  | .SP => { s with sp := w }
  | .PC => { s with pc := w }

/-! ## Bus -/

/-- `read8(addr)` (R31). The slot says which read of the step it is; it matters only where `CART_RAM` is absent, where the byte is free
(R34). -/
def State.read8 (s : State) (slot : ReadSlot) (addr : Word) : Byte :=
  match region addr with
  | .unmapped => 0x00
  | .cram =>
    match s.params.cartRam with
    | .present => s.mem.get (cellOf addr)
    | .absent => Config.freeByte s.draws slot
  | .rom | .vram | .wram0 | .wram1 | .oam | .io | .hram | .ie => s.mem.get (cellOf addr)

/-- Is a write to this address stored, rather than discarded (R32, R33, R34, R39). -/
def State.writable (s : State) (addr : Word) : Bool :=
  match region addr with
  | .rom | .unmapped => false
  | .cram => s.params.cartRam = .present
  | .vram | .wram0 | .wram1 | .oam | .io | .hram | .ie => true

/-- `write8(addr, v)` (R32): changes the one cell, or is discarded. -/
def State.write8 (s : State) (addr : Word) (v : Byte) : State :=
  if s.writable addr then { s with mem := s.mem.set (cellOf addr) v } else s

/-- The high byte of a word read at 0xFFFF (R45): 0x00, or the byte at 0x0000 under `WORD_AT_FFFF = wrap`. -/
def State.highByteAtFFFF (s : State) : Byte :=
  match s.params.wordAtFFFF with
  | .unmapped => 0x00
  | .wrap => s.read8 .data1 0x0000

/-- `read16(addr)`: the low byte at `addr`, the high byte at `addr + 1` (R43, R45). -/
def State.read16 (s : State) (addr : Word) : Word :=
  if addr = 0xFFFF then cat s.highByteAtFFFF (s.read8 .data0 addr)
  else cat (s.read8 .data1 (addr + 1)) (s.read8 .data0 addr)

/-- Where the high byte of a word access at `addr` goes: nowhere at 0xFFFF under `WORD_AT_FFFF = unmapped` (R44, R45). -/
def State.highAddr? (s : State) (addr : Word) : Option Word :=
  if addr = 0xFFFF then
    match s.params.wordAtFFFF with
    | .unmapped => none
    | .wrap => some 0x0000
  else some (addr + 1)

/-- `write16(addr, w)`: the low byte at `addr`, then the high byte (R44, R45). -/
def State.write16 (s : State) (addr : Word) (w : Word) : State :=
  let s1 := s.write8 addr (lo8 w)
  match s.highAddr? addr with
  | none => s1
  | some a1 => s1.write8 a1 (hi8 w)

/-- `push16(w)`: SP down by 2, then the word at the new SP (R46). -/
def State.push16 (s : State) (w : Word) : State :=
  let sp' := s.sp - 2
  { s with sp := sp' }.write16 sp' w

/-- The word `pop16()` returns (R47). -/
def State.popWord (s : State) : Word := s.read16 s.sp

/-- What `pop16()` does to the state: SP up by 2 (R47). -/
def State.popped (s : State) : State := { s with sp := s.sp + 2 }

/-! ## PC -/

/-- Step 4 of R19: PC moves on by the instruction's length, modulo 65536 (R14, D9). -/
def State.advance (s : State) (len : Nat) : State := { s with pc := s.pc + BitVec.ofNat 16 len }

/-- `pc <- t`: the instruction has branched, the step adds no length (R19). -/
def State.jump (s : State) (t : Word) : State := { s with pc := t }

/-- `next`, the address of the following instruction, for an instruction of `len` bytes (R14). -/
def State.nextAddr (s : State) (len : Nat) : Word := s.pc + BitVec.ofNat 16 len

/-- The outcome of an instruction of `len` bytes that did not branch and left the state `s` (R19). -/
def seq (len : Nat) (s : State) : Outcome := .next (s.advance len)

/-! ## Ports -/

/-- The `wake` input of the interrupt-controller port: "its whole effect on the block is `halted <- 0`" (R245). The platform may assert it
between two steps; no step does (notes/assumptions/7.md). -/
def State.wake (s : State) : State := { s with halted := false }

/-- The mirror bit after a command: 1 after an enable, 0 after a disable (R243, R244). -/
def PortCommand.enables : PortCommand → Bool
  | .intEnable => true
  | .intDisable => false

/-- Issue `int_enable` or `int_disable` on the interrupt-controller port: the mirror follows the command, and the command goes out on the
stream even when the mirror stays as it was (R223, R243, R244). -/
def State.issue (s : State) (c : PortCommand) : State := { s with ime := c.enables, commands := s.commands ++ [c] }

/-- Between the fetch and the execution of one step: with `CART_RAM` absent the next reads are fresh draws (R34, U4); otherwise nothing
happens (notes/assumptions/4.md). -/
def State.tick (s : State) : State :=
  match s.params.cartRam with
  | .present => s
  | .absent => { s with draws := s.draws + 1 }

/-! ## Placing bytes from outside (R54: the ROM contents and the initial contents of the arrays are the platform's) -/

/-- Is there a cell behind this address, ROM included (R31, R34, R39). -/
def State.hasCell (s : State) (addr : Word) : Bool :=
  match region addr with
  | .unmapped => false
  | .cram => s.params.cartRam = .present
  | .rom | .vram | .wram0 | .wram1 | .oam | .io | .hram | .ie => true

/-- Put a byte into the cell behind an address, ROM included. No instruction does this. -/
def State.place (s : State) (addr : Word) (v : Byte) : State := { s with mem := s.mem.set (cellOf addr) v }

/-- Put three bytes at PC, for the next step to fetch. -/
def State.placeInstr (s : State) (bytes : Byte × Byte × Byte) : State :=
  ((s.place s.pc bytes.1).place (s.pc + 1) bytes.2.1).place (s.pc + 2) bytes.2.2

/-- The machine made ready to fetch the three bytes next: Running, and at PC = 0x0000 if one of the three addresses at PC has no cell
(notes/assumptions/6.md). -/
def State.readyToFetch (s : State) : State :=
  let cells := s.hasCell s.pc && s.hasCell (s.pc + 1) && s.hasCell (s.pc + 2)
  { s with halted := false, pc := if cells then s.pc else 0x0000 }

end Sys2Proof.Machine
end

