-- ==== Sys2Proof/Machine/Flags.lean ====
section
/-! DEFINITION. The flag register (R11, R15, R18) and every flag computation of the ALU primitives: `add8` R130, `sub8` R131, `add16` R160,
the SP offset R124 and R162, the rotate and shift primitives R170, decimal adjust R145. -/

namespace Sys2Proof

/-- The bit of F that holds a flag (R11). -/
def Flag.bit : Flag → Nat
  | .Z => 7
  | .N => 6
  | .H => 5
  | .C => 4

/-- What an instruction does to the four flags: a value, or `none` for unaffected (R18). -/
structure FlagWrite where
  z : Option Bool := none
  n : Option Bool := none
  h : Option Bool := none
  c : Option Bool := none
  deriving DecidableEq, Repr

/-- All four flags written. -/
def FlagWrite.all (z n h c : Bool) : FlagWrite := { z := some z, n := some n, h := some h, c := some c }

/-- `fX <- b`, or nothing: "writing one flag leaves the other seven bits of F unchanged" (R11). -/
def putFlag (f : Byte) (fl : Flag) : Option Bool → Byte
  | none => f
  | some b => putBit f fl.bit b

/-- F after a flag write. -/
def FlagWrite.apply (w : FlagWrite) (f : Byte) : Byte :=
  putFlag (putFlag (putFlag (putFlag f .Z w.z) .N w.n) .H w.h) .C w.c

/-- Result, carry and half carry of an ALU primitive. -/
structure AluOut (n : Nat) where
  result : BitVec n
  carry : Bool
  half : Bool
  deriving DecidableEq, Repr

/-- The number of a carry-in. -/
def carryIn (b : Bool) : Nat := if b then 1 else 0

/-- `add8(a, b, cin)` (R130). -/
def add8 (a b : Byte) (cin : Bool) : AluOut 8 :=
  let sum := a.toNat + b.toNat + carryIn cin
  { result := BitVec.ofNat 8 sum
    carry := decide (255 < sum)
    half := decide (15 < lowNibble a + lowNibble b + carryIn cin) }

/-- `sub8(a, b, cin)` (R131): integer subtraction, a negative difference is a borrow. -/
def sub8 (a b : Byte) (cin : Bool) : AluOut 8 :=
  let diff : Int := (a.toNat : Int) - b.toNat - carryIn cin
  { result := BitVec.ofInt 8 diff
    carry := decide (diff < 0)
    half := decide ((lowNibble a : Int) - lowNibble b - carryIn cin < 0) }

/-- `add16(a, b, cin)` (R160): the half carry is out of bit 11. -/
def add16 (a b : Word) (cin : Bool) : AluOut 16 :=
  let sum := a.toNat + b.toNat + carryIn cin
  { result := BitVec.ofNat 16 sum
    carry := decide (65535 < sum)
    half := decide (0x0FFF < a.toNat % 4096 + b.toNat % 4096 + carryIn cin) }

/-- `SP +16 sext_16(b1)` with the carries out of bits 3 and 7 of the unsigned addition of SP's low byte and the raw operand byte (R124,
R162). -/
def addOffset (sp : Word) (e : Byte) : AluOut 16 :=
  { result := sp + sext16 e
    carry := decide (0xFF < sp.toNat % 256 + e.toNat)
    half := decide (0x0F < sp.toNat % 16 + lowNibble e) }

/-- `(res = 0)`, the Z flag of a result (R149). -/
def isZero (v : Byte) : Bool := v = 0x00

/-- A shifted byte and the bit that was shifted out (R170). -/
structure ShiftOut where
  result : Byte
  out : Bool
  deriving DecidableEq, Repr

/-- One bit as a byte, in bit 0. -/
def bitByte (b : Bool) : Byte := if b then 0x01 else 0x00

/-- `rotate_left1(v, in) = ({v[6:0], in}, out = v[7])` (R170). -/
def rotateLeft1 (v : Byte) (inBit : Bool) : ShiftOut := { result := (v <<< 1) ||| bitByte inBit, out := bitAt v 7 }

/-- `rotate_right1(v, in) = ({in, v[7:1]}, out = v[0])` (R170). -/
def rotateRight1 (v : Byte) (inBit : Bool) : ShiftOut := { result := (v >>> 1) ||| (bitByte inBit <<< 7), out := bitAt v 0 }

/-- `shift_left1(v) = ({v[6:0], 0}, out = v[7])` (R170). -/
def shiftLeft1 (v : Byte) : ShiftOut := { result := v <<< 1, out := bitAt v 7 }

/-- `shift_right1_logical(v) = ({0, v[7:1]}, out = v[0])` (R170). -/
def shiftRight1Logical (v : Byte) : ShiftOut := { result := v >>> 1, out := bitAt v 0 }

/-- `shift_right1_arithmetic(v) = ({v[7], v[7:1]}, out = v[0])` (R170). -/
def shiftRight1Arithmetic (v : Byte) : ShiftOut := { result := (v >>> 1) ||| (v &&& 0x80), out := bitAt v 0 }

/-- `swap_nibbles(v) = ({v[3:0], v[7:4]}, out = 0)` (R170, C5, D19). -/
def swapNibbles (v : Byte) : ShiftOut := { result := (v <<< 4) ||| (v >>> 4), out := false }

/-- Decimal adjust of A under the flags N, H, C (R145): the new A and the new C. -/
def decimalAdjust (a : Byte) (n h c : Bool) : Byte × Bool :=
  if n then
    let adj : Byte := (if h then 0x06 else 0x00) + (if c then 0x60 else 0x00)
    (a - adj, c)
  else
    let low := h || decide (9 < lowNibble a)
    let high := c || decide (0x99 < a.toNat)
    let adj : Byte := (if low then 0x06 else 0x00) + (if high then 0x60 else 0x00)
    (a + adj, high)

namespace Machine

/-- `flag_is_set(flag)`: `fZ`, `fN`, `fH`, `fC` (R15). -/
def State.flag (s : State) (fl : Flag) : Bool := bitAt s.f fl.bit

/-- `set_flag(flag)` (R15). -/
def State.setFlag (s : State) (fl : Flag) : State := { s with f := putBit s.f fl.bit true }

/-- `clear_flag(flag)` (R15). -/
def State.clearFlag (s : State) (fl : Flag) : State := { s with f := putBit s.f fl.bit false }

/-- The flag writes of an instruction. -/
def State.writeFlags (s : State) (w : FlagWrite) : State := { s with f := w.apply s.f }

end Machine

end Sys2Proof
end

