-- ==== Sys2Proof/Machine/Operands.lean ====
section
/-! DEFINITION. The operand forms: `loc8` (R64), the high page (R69, R111, R113), conditions (R66, R200), relative targets (R204). -/

namespace Sys2Proof.Machine

/-- `xx[HL]`, the address of the `(HL)` operand (R64). -/
def State.hl (s : State) : Word := s.get16 .HL

/-- Reading `loc8[i]` (R64): a register, or one `read8` at HL. -/
def State.readLoc (s : State) : Loc8 → Byte
  | .reg r => s.get8 r
  | .HLm => s.read8 .data0 s.hl

/-- Writing `loc8[i]` (R64): a register, or one `write8` at HL. -/
def State.writeLoc (s : State) (x : Loc8) (v : Byte) : State :=
  match x with
  | .reg r => s.set8 r v
  | .HLm => s.write8 s.hl v

/-- The high page address `0xFF00 + zext_16(o)` (R69, R111). -/
def highPage (o : Byte) : Word := 0xFF00 + zext16 o

/-- Does a condition hold (R66, R200). -/
def State.holds (s : State) (cc : Cond) : Bool :=
  match cc with
  | .NZ => !s.flag .Z
  | .Z => s.flag .Z
  | .NC => !s.flag .C
  | .C => s.flag .C

/-- `here +16 2 +16 sext_16(b1)`, the target of a relative jump (R204). -/
def State.relTarget (s : State) (e : Byte) : Word := s.nextAddr 2 + sext16 e

end Sys2Proof.Machine
end

