-- ==== Sys2Proof/Machine/Load16.lean ====
section
/-! DEFINITION. The 16-bit loads and the stack (spec/41_load16_stack.md). Common to all (R120): no exception, nothing
branches, no flag but for LDHL and POP AF. One meaning per row of the opcode table, over the shared operations. -/

namespace Sys2Proof.Machine

/-- `LD rr,d16`: `xx[rr] <- d16` (R121). -/
def ldPairImm (rr : Reg16) (d : Word) (s : State) : Outcome := seq 3 (s.set16 rr d)

/-- `PUSH rr`: `push16(xx[rr])` (R125). -/
def pushPair (rr : Reg16) (s : State) : Outcome := seq 1 (s.push16 (s.get16 rr))

/-- `POP rr`: `xx[rr] <- pop16()` (R126). -/
def popPair (rr : Reg16) (s : State) : Outcome := seq 1 (s.popped.set16 rr s.popWord)

/-- The flags of `LDHL SP,e8` (R124) and `ADD SP,e8` (R162): Z = 0, N = 0, H and C from the low-byte addition. -/
def offsetFlags (r : AluOut 16) : FlagWrite := FlagWrite.all false false r.half r.carry

/-! ## The rows of the opcode table -/

/-- LD BC,d16: 01 (R121). -/
def exec_LD_BC_d16 (d : Word) (s : State) : Outcome := ldPairImm .BC d s

/-- LD DE,d16: 11 (R121). -/
def exec_LD_DE_d16 (d : Word) (s : State) : Outcome := ldPairImm .DE d s

/-- LD HL,d16: 21 (R121). -/
def exec_LD_HL_d16 (d : Word) (s : State) : Outcome := ldPairImm .HL d s

/-- LD SP,d16: 31 (R121). -/
def exec_LD_SP_d16 (d : Word) (s : State) : Outcome := ldPairImm .SP d s

/-- LD (a16),SP: 08 (R122). -/
def exec_LD_a16m_SP (a : Word) (s : State) : Outcome := seq 3 (s.write16 a s.sp)

/-- LD SP,HL: F9 (R123). -/
def exec_LD_SP_HL (s : State) : Outcome := seq 1 { s with sp := s.hl }

/-- LDHL SP,e8: F8 (R124). -/
def exec_LDHL_SP_e8 (e : Byte) (s : State) : Outcome :=
  let r := addOffset s.sp e
  let s1 := s.set16 .HL r.result
  match s.params.ldhlFlags with
  | .hardware => seq 2 (s1.writeFlags (offsetFlags r))
  | .unaffected => seq 2 s1

/-- PUSH BC: C5 (R125). -/
def exec_PUSH_BC (s : State) : Outcome := pushPair .BC s

/-- PUSH DE: D5 (R125). -/
def exec_PUSH_DE (s : State) : Outcome := pushPair .DE s

/-- PUSH HL: E5 (R125). -/
def exec_PUSH_HL (s : State) : Outcome := pushPair .HL s

/-- PUSH AF: F5 (R125). -/
def exec_PUSH_AF (s : State) : Outcome := pushPair .AF s

/-- POP BC: C1 (R126). -/
def exec_POP_BC (s : State) : Outcome := popPair .BC s

/-- POP DE: D1 (R126). -/
def exec_POP_DE (s : State) : Outcome := popPair .DE s

/-- POP HL: E1 (R126). -/
def exec_POP_HL (s : State) : Outcome := popPair .HL s

/-- POP AF: F1 (R127). -/
def exec_POP_AF (s : State) : Outcome := popPair .AF s

end Sys2Proof.Machine
end

