-- ==== Sys2Proof/Machine/Alu16.lean ====
section
/-! DEFINITION. 16-bit arithmetic (spec/43_alu16.md): no memory access, nothing branches. One meaning per row of the opcode table, over the shared operations. -/

namespace Sys2Proof.Machine

/-- `ADD HL,rr`: Z unaffected, N = 0, H out of bit 11, C out of bit 15 (R161). -/
def addHL (rr : Reg16) (s : State) : Outcome :=
  let r := add16 s.hl (s.get16 rr) false
  seq 1 ((s.set16 .HL r.result).writeFlags { n := some false, h := some r.half, c := some r.carry })

/-- `INC rr`: no flag (R163). -/
def incPair (rr : Reg16) (s : State) : Outcome := seq 1 (s.set16 rr (s.get16 rr + 1))

/-- `DEC rr`: no flag (R164). -/
def decPair (rr : Reg16) (s : State) : Outcome := seq 1 (s.set16 rr (s.get16 rr - 1))

/-! ## The rows of the opcode table -/

/-- ADD HL,BC: 09 (R161). -/
def exec_ADD_HL_BC (s : State) : Outcome := addHL .BC s

/-- ADD HL,DE: 19 (R161). -/
def exec_ADD_HL_DE (s : State) : Outcome := addHL .DE s

/-- ADD HL,HL: 29 (R161). -/
def exec_ADD_HL_HL (s : State) : Outcome := addHL .HL s

/-- ADD HL,SP: 39 (R161). -/
def exec_ADD_HL_SP (s : State) : Outcome := addHL .SP s

/-- ADD SP,e8: E8 (R162). -/
def exec_ADD_SP_e8 (e : Byte) (s : State) : Outcome :=
  let r := addOffset s.sp e
  seq 2 ({ s with sp := r.result }.writeFlags (offsetFlags r))

/-- INC BC: 03 (R163). -/
def exec_INC_BC (s : State) : Outcome := incPair .BC s

/-- INC DE: 13 (R163). -/
def exec_INC_DE (s : State) : Outcome := incPair .DE s

/-- INC HL: 23 (R163). -/
def exec_INC_HL (s : State) : Outcome := incPair .HL s

/-- INC SP: 33 (R163). -/
def exec_INC_SP (s : State) : Outcome := incPair .SP s

/-- DEC BC: 0B (R164). -/
def exec_DEC_BC (s : State) : Outcome := decPair .BC s

/-- DEC DE: 1B (R164). -/
def exec_DEC_DE (s : State) : Outcome := decPair .DE s

/-- DEC HL: 2B (R164). -/
def exec_DEC_HL (s : State) : Outcome := decPair .HL s

/-- DEC SP: 3B (R164). -/
def exec_DEC_SP (s : State) : Outcome := decPair .SP s

end Sys2Proof.Machine
end

