-- ==== Sys2Proof/Machine/Alu8.lean ====
section
/-! DEFINITION. 8-bit arithmetic and logic, INC and DEC of a byte, DAA, CPL, SCF, CCF (spec/42_alu8.md). One meaning per row of the opcode table, over the shared operations. -/

namespace Sys2Proof.Machine

/-- A and the flags after an arithmetic primitive: Z from the result, N as given, H and C from the primitive (R133 to R136). -/
def arith (r : AluOut 8) (n : Bool) (s : State) : State :=
  (s.set8 .A r.result).writeFlags (FlagWrite.all (isZero r.result) n r.half r.carry)

/-- A and the flags after a logical operation: Z from the result, N = 0, C = 0, H as given (R137 to R139). -/
def logic (r : Byte) (h : Bool) (s : State) : State := (s.set8 .A r).writeFlags (FlagWrite.all (isZero r) false h false)

/-- The eight operations of table `alu` on A and the operand `v` (R132). ADD, SUB, CP take carry-in 0, ADC and SBC the current C (R149);
CP writes the flags of SUB and leaves A (R140). -/
def aluApply (op : AluOp) (v : Byte) (s : State) : State :=
  match op with
  | .ADD => arith (add8 s.a v false) false s
  | .ADC => arith (add8 s.a v (s.flag .C)) false s
  | .SUB => arith (sub8 s.a v false) true s
  | .SBC => arith (sub8 s.a v (s.flag .C)) true s
  | .AND => logic (s.a &&& v) true s
  | .XOR => logic (s.a ^^^ v) false s
  | .OR => logic (s.a ||| v) false s
  | .CP =>
    let r := sub8 s.a v false
    s.writeFlags (FlagWrite.all (isZero r.result) true r.half r.carry)

/-- The shapes `_r` and `_HLm` of R132: `s` is `loc8[z]`, read once. -/
def aluLoc (op : AluOp) (x : Loc8) (s : State) : Outcome := seq 1 (aluApply op (s.readLoc x) s)

/-- The shape `_d8` of R132. -/
def aluImm (op : AluOp) (d : Byte) (s : State) : Outcome := seq 2 (aluApply op d s)

/-- The flags of INC and DEC of a byte: C unaffected (R141 to R144). -/
def incDecFlags (r : AluOut 8) (n : Bool) : FlagWrite := { z := some (isZero r.result), n := some n, h := some r.half }

/-- `INC r`, `INC (HL)` (R141, R142). -/
def incLoc (x : Loc8) (s : State) : Outcome :=
  let r := add8 (s.readLoc x) 1 false
  seq 1 ((s.writeLoc x r.result).writeFlags (incDecFlags r false))

/-- `DEC r`, `DEC (HL)` (R143, R144). -/
def decLoc (x : Loc8) (s : State) : Outcome :=
  let r := sub8 (s.readLoc x) 1 false
  seq 1 ((s.writeLoc x r.result).writeFlags (incDecFlags r true))

/-! ## The rows of the opcode table -/

/-- ADD A,B: 80 (R133). -/
def exec_ADD_A_B (s : State) : Outcome := aluLoc .ADD (.reg .B) s

/-- ADD A,C: 81 (R133). -/
def exec_ADD_A_C (s : State) : Outcome := aluLoc .ADD (.reg .C) s

/-- ADD A,D: 82 (R133). -/
def exec_ADD_A_D (s : State) : Outcome := aluLoc .ADD (.reg .D) s

/-- ADD A,E: 83 (R133). -/
def exec_ADD_A_E (s : State) : Outcome := aluLoc .ADD (.reg .E) s

/-- ADD A,H: 84 (R133). -/
def exec_ADD_A_H (s : State) : Outcome := aluLoc .ADD (.reg .H) s

/-- ADD A,L: 85 (R133). -/
def exec_ADD_A_L (s : State) : Outcome := aluLoc .ADD (.reg .L) s

/-- ADD A,(HL): 86 (R133). -/
def exec_ADD_A_HLm (s : State) : Outcome := aluLoc .ADD .HLm s

/-- ADD A,A: 87 (R133). -/
def exec_ADD_A_A (s : State) : Outcome := aluLoc .ADD (.reg .A) s

/-- ADD A,d8: C6 (R133). -/
def exec_ADD_A_d8 (d : Byte) (s : State) : Outcome := aluImm .ADD d s

/-- ADC A,B: 88 (R134). -/
def exec_ADC_A_B (s : State) : Outcome := aluLoc .ADC (.reg .B) s

/-- ADC A,C: 89 (R134). -/
def exec_ADC_A_C (s : State) : Outcome := aluLoc .ADC (.reg .C) s

/-- ADC A,D: 8A (R134). -/
def exec_ADC_A_D (s : State) : Outcome := aluLoc .ADC (.reg .D) s

/-- ADC A,E: 8B (R134). -/
def exec_ADC_A_E (s : State) : Outcome := aluLoc .ADC (.reg .E) s

/-- ADC A,H: 8C (R134). -/
def exec_ADC_A_H (s : State) : Outcome := aluLoc .ADC (.reg .H) s

/-- ADC A,L: 8D (R134). -/
def exec_ADC_A_L (s : State) : Outcome := aluLoc .ADC (.reg .L) s

/-- ADC A,(HL): 8E (R134). -/
def exec_ADC_A_HLm (s : State) : Outcome := aluLoc .ADC .HLm s

/-- ADC A,A: 8F (R134). -/
def exec_ADC_A_A (s : State) : Outcome := aluLoc .ADC (.reg .A) s

/-- ADC A,d8: CE (R134). -/
def exec_ADC_A_d8 (d : Byte) (s : State) : Outcome := aluImm .ADC d s

/-- SUB B: 90 (R135). -/
def exec_SUB_B (s : State) : Outcome := aluLoc .SUB (.reg .B) s

/-- SUB C: 91 (R135). -/
def exec_SUB_C (s : State) : Outcome := aluLoc .SUB (.reg .C) s

/-- SUB D: 92 (R135). -/
def exec_SUB_D (s : State) : Outcome := aluLoc .SUB (.reg .D) s

/-- SUB E: 93 (R135). -/
def exec_SUB_E (s : State) : Outcome := aluLoc .SUB (.reg .E) s

/-- SUB H: 94 (R135). -/
def exec_SUB_H (s : State) : Outcome := aluLoc .SUB (.reg .H) s

/-- SUB L: 95 (R135). -/
def exec_SUB_L (s : State) : Outcome := aluLoc .SUB (.reg .L) s

/-- SUB (HL): 96 (R135). -/
def exec_SUB_HLm (s : State) : Outcome := aluLoc .SUB .HLm s

/-- SUB A: 97 (R135). -/
def exec_SUB_A (s : State) : Outcome := aluLoc .SUB (.reg .A) s

/-- SUB d8: D6 (R135). -/
def exec_SUB_d8 (d : Byte) (s : State) : Outcome := aluImm .SUB d s

/-- SBC A,B: 98 (R136). -/
def exec_SBC_A_B (s : State) : Outcome := aluLoc .SBC (.reg .B) s

/-- SBC A,C: 99 (R136). -/
def exec_SBC_A_C (s : State) : Outcome := aluLoc .SBC (.reg .C) s

/-- SBC A,D: 9A (R136). -/
def exec_SBC_A_D (s : State) : Outcome := aluLoc .SBC (.reg .D) s

/-- SBC A,E: 9B (R136). -/
def exec_SBC_A_E (s : State) : Outcome := aluLoc .SBC (.reg .E) s

/-- SBC A,H: 9C (R136). -/
def exec_SBC_A_H (s : State) : Outcome := aluLoc .SBC (.reg .H) s

/-- SBC A,L: 9D (R136). -/
def exec_SBC_A_L (s : State) : Outcome := aluLoc .SBC (.reg .L) s

/-- SBC A,(HL): 9E (R136). -/
def exec_SBC_A_HLm (s : State) : Outcome := aluLoc .SBC .HLm s

/-- SBC A,A: 9F (R136). -/
def exec_SBC_A_A (s : State) : Outcome := aluLoc .SBC (.reg .A) s

/-- SBC A,d8: DE (R136). -/
def exec_SBC_A_d8 (d : Byte) (s : State) : Outcome := aluImm .SBC d s

/-- AND B: A0 (R137). -/
def exec_AND_B (s : State) : Outcome := aluLoc .AND (.reg .B) s

/-- AND C: A1 (R137). -/
def exec_AND_C (s : State) : Outcome := aluLoc .AND (.reg .C) s

/-- AND D: A2 (R137). -/
def exec_AND_D (s : State) : Outcome := aluLoc .AND (.reg .D) s

/-- AND E: A3 (R137). -/
def exec_AND_E (s : State) : Outcome := aluLoc .AND (.reg .E) s

/-- AND H: A4 (R137). -/
def exec_AND_H (s : State) : Outcome := aluLoc .AND (.reg .H) s

/-- AND L: A5 (R137). -/
def exec_AND_L (s : State) : Outcome := aluLoc .AND (.reg .L) s

/-- AND (HL): A6 (R137). -/
def exec_AND_HLm (s : State) : Outcome := aluLoc .AND .HLm s

/-- AND A: A7 (R137). -/
def exec_AND_A (s : State) : Outcome := aluLoc .AND (.reg .A) s

/-- AND d8: E6 (R137). -/
def exec_AND_d8 (d : Byte) (s : State) : Outcome := aluImm .AND d s

/-- XOR B: A8 (R138). -/
def exec_XOR_B (s : State) : Outcome := aluLoc .XOR (.reg .B) s

/-- XOR C: A9 (R138). -/
def exec_XOR_C (s : State) : Outcome := aluLoc .XOR (.reg .C) s

/-- XOR D: AA (R138). -/
def exec_XOR_D (s : State) : Outcome := aluLoc .XOR (.reg .D) s

/-- XOR E: AB (R138). -/
def exec_XOR_E (s : State) : Outcome := aluLoc .XOR (.reg .E) s

/-- XOR H: AC (R138). -/
def exec_XOR_H (s : State) : Outcome := aluLoc .XOR (.reg .H) s

/-- XOR L: AD (R138). -/
def exec_XOR_L (s : State) : Outcome := aluLoc .XOR (.reg .L) s

/-- XOR (HL): AE (R138). -/
def exec_XOR_HLm (s : State) : Outcome := aluLoc .XOR .HLm s

/-- XOR A: AF (R138). -/
def exec_XOR_A (s : State) : Outcome := aluLoc .XOR (.reg .A) s

/-- XOR d8: EE (R138). -/
def exec_XOR_d8 (d : Byte) (s : State) : Outcome := aluImm .XOR d s

/-- OR B: B0 (R139). -/
def exec_OR_B (s : State) : Outcome := aluLoc .OR (.reg .B) s

/-- OR C: B1 (R139). -/
def exec_OR_C (s : State) : Outcome := aluLoc .OR (.reg .C) s

/-- OR D: B2 (R139). -/
def exec_OR_D (s : State) : Outcome := aluLoc .OR (.reg .D) s

/-- OR E: B3 (R139). -/
def exec_OR_E (s : State) : Outcome := aluLoc .OR (.reg .E) s

/-- OR H: B4 (R139). -/
def exec_OR_H (s : State) : Outcome := aluLoc .OR (.reg .H) s

/-- OR L: B5 (R139). -/
def exec_OR_L (s : State) : Outcome := aluLoc .OR (.reg .L) s

/-- OR (HL): B6 (R139). -/
def exec_OR_HLm (s : State) : Outcome := aluLoc .OR .HLm s

/-- OR A: B7 (R139). -/
def exec_OR_A (s : State) : Outcome := aluLoc .OR (.reg .A) s

/-- OR d8: F6 (R139). -/
def exec_OR_d8 (d : Byte) (s : State) : Outcome := aluImm .OR d s

/-- CP B: B8 (R140). -/
def exec_CP_B (s : State) : Outcome := aluLoc .CP (.reg .B) s

/-- CP C: B9 (R140). -/
def exec_CP_C (s : State) : Outcome := aluLoc .CP (.reg .C) s

/-- CP D: BA (R140). -/
def exec_CP_D (s : State) : Outcome := aluLoc .CP (.reg .D) s

/-- CP E: BB (R140). -/
def exec_CP_E (s : State) : Outcome := aluLoc .CP (.reg .E) s

/-- CP H: BC (R140). -/
def exec_CP_H (s : State) : Outcome := aluLoc .CP (.reg .H) s

/-- CP L: BD (R140). -/
def exec_CP_L (s : State) : Outcome := aluLoc .CP (.reg .L) s

/-- CP (HL): BE (R140). -/
def exec_CP_HLm (s : State) : Outcome := aluLoc .CP .HLm s

/-- CP A: BF (R140). -/
def exec_CP_A (s : State) : Outcome := aluLoc .CP (.reg .A) s

/-- CP d8: FE (R140). -/
def exec_CP_d8 (d : Byte) (s : State) : Outcome := aluImm .CP d s

/-- INC B: 04 (R141). -/
def exec_INC_B (s : State) : Outcome := incLoc (.reg .B) s

/-- INC C: 0C (R141). -/
def exec_INC_C (s : State) : Outcome := incLoc (.reg .C) s

/-- INC D: 14 (R141). -/
def exec_INC_D (s : State) : Outcome := incLoc (.reg .D) s

/-- INC E: 1C (R141). -/
def exec_INC_E (s : State) : Outcome := incLoc (.reg .E) s

/-- INC H: 24 (R141). -/
def exec_INC_H (s : State) : Outcome := incLoc (.reg .H) s

/-- INC L: 2C (R141). -/
def exec_INC_L (s : State) : Outcome := incLoc (.reg .L) s

/-- INC A: 3C (R141). -/
def exec_INC_A (s : State) : Outcome := incLoc (.reg .A) s

/-- INC (HL): 34 (R142). -/
def exec_INC_HLm (s : State) : Outcome := incLoc .HLm s

/-- DEC B: 05 (R143). -/
def exec_DEC_B (s : State) : Outcome := decLoc (.reg .B) s

/-- DEC C: 0D (R143). -/
def exec_DEC_C (s : State) : Outcome := decLoc (.reg .C) s

/-- DEC D: 15 (R143). -/
def exec_DEC_D (s : State) : Outcome := decLoc (.reg .D) s

/-- DEC E: 1D (R143). -/
def exec_DEC_E (s : State) : Outcome := decLoc (.reg .E) s

/-- DEC H: 25 (R143). -/
def exec_DEC_H (s : State) : Outcome := decLoc (.reg .H) s

/-- DEC L: 2D (R143). -/
def exec_DEC_L (s : State) : Outcome := decLoc (.reg .L) s

/-- DEC A: 3D (R143). -/
def exec_DEC_A (s : State) : Outcome := decLoc (.reg .A) s

/-- DEC (HL): 35 (R144). -/
def exec_DEC_HLm (s : State) : Outcome := decLoc .HLm s

/-- DAA: 27 (R145). -/
def exec_DAA (s : State) : Outcome :=
  let r := decimalAdjust s.a (s.flag .N) (s.flag .H) (s.flag .C)
  seq 1 ((s.set8 .A r.1).writeFlags { z := some (isZero r.1), h := some false, c := some r.2 })

/-- CPL: 2F (R146). -/
def exec_CPL (s : State) : Outcome := seq 1 ((s.set8 .A (s.a ^^^ 0xFF)).writeFlags { n := some true, h := some true })

/-- SCF: 37 (R147). -/
def exec_SCF (s : State) : Outcome := seq 1 (s.writeFlags { n := some false, h := some false, c := some true })

/-- CCF: 3F (R148). -/
def exec_CCF (s : State) : Outcome := seq 1 (s.writeFlags { n := some false, h := some false, c := some (!s.flag .C) })

end Sys2Proof.Machine
end

