-- ==== Sys2Proof/Machine/BitOps.lean ====
section
/-! DEFINITION. BIT, RES and SET (spec/44_rotate_shift_bit.md section 4). The bit index is 3 bits wide (R77). One meaning per row of the opcode table, over the shared operations. -/

namespace Sys2Proof.Machine

/-- `BIT b,s`: Z the inverse of the bit, N = 0, H = 1, C unaffected; nothing else is written (R184). -/
def bitLoc (b : BitVec 3) (x : Loc8) (s : State) : Outcome :=
  seq 2 (s.writeFlags { z := some (!bitAt (s.readLoc x) b.toNat), n := some false, h := some true })

/-- `RES b,s`: bit b becomes 0, no flag (R185). -/
def resLoc (b : BitVec 3) (x : Loc8) (s : State) : Outcome := seq 2 (s.writeLoc x (clearBitAt (s.readLoc x) b.toNat))

/-- `SET b,s`: bit b becomes 1, no flag (R186). -/
def setLoc (b : BitVec 3) (x : Loc8) (s : State) : Outcome := seq 2 (s.writeLoc x (setBitAt (s.readLoc x) b.toNat))

/-! ## The rows of the opcode table -/

/-- BIT 0,B: CB 40 (R184). -/
def exec_BIT_0_B (s : State) : Outcome := bitLoc 0 (.reg .B) s

/-- BIT 0,C: CB 41 (R184). -/
def exec_BIT_0_C (s : State) : Outcome := bitLoc 0 (.reg .C) s

/-- BIT 0,D: CB 42 (R184). -/
def exec_BIT_0_D (s : State) : Outcome := bitLoc 0 (.reg .D) s

/-- BIT 0,E: CB 43 (R184). -/
def exec_BIT_0_E (s : State) : Outcome := bitLoc 0 (.reg .E) s

/-- BIT 0,H: CB 44 (R184). -/
def exec_BIT_0_H (s : State) : Outcome := bitLoc 0 (.reg .H) s

/-- BIT 0,L: CB 45 (R184). -/
def exec_BIT_0_L (s : State) : Outcome := bitLoc 0 (.reg .L) s

/-- BIT 0,(HL): CB 46 (R184). -/
def exec_BIT_0_HLm (s : State) : Outcome := bitLoc 0 .HLm s

/-- BIT 0,A: CB 47 (R184). -/
def exec_BIT_0_A (s : State) : Outcome := bitLoc 0 (.reg .A) s

/-- BIT 1,B: CB 48 (R184). -/
def exec_BIT_1_B (s : State) : Outcome := bitLoc 1 (.reg .B) s

/-- BIT 1,C: CB 49 (R184). -/
def exec_BIT_1_C (s : State) : Outcome := bitLoc 1 (.reg .C) s

/-- BIT 1,D: CB 4A (R184). -/
def exec_BIT_1_D (s : State) : Outcome := bitLoc 1 (.reg .D) s

/-- BIT 1,E: CB 4B (R184). -/
def exec_BIT_1_E (s : State) : Outcome := bitLoc 1 (.reg .E) s

/-- BIT 1,H: CB 4C (R184). -/
def exec_BIT_1_H (s : State) : Outcome := bitLoc 1 (.reg .H) s

/-- BIT 1,L: CB 4D (R184). -/
def exec_BIT_1_L (s : State) : Outcome := bitLoc 1 (.reg .L) s

/-- BIT 1,(HL): CB 4E (R184). -/
def exec_BIT_1_HLm (s : State) : Outcome := bitLoc 1 .HLm s

/-- BIT 1,A: CB 4F (R184). -/
def exec_BIT_1_A (s : State) : Outcome := bitLoc 1 (.reg .A) s

/-- BIT 2,B: CB 50 (R184). -/
def exec_BIT_2_B (s : State) : Outcome := bitLoc 2 (.reg .B) s

/-- BIT 2,C: CB 51 (R184). -/
def exec_BIT_2_C (s : State) : Outcome := bitLoc 2 (.reg .C) s

/-- BIT 2,D: CB 52 (R184). -/
def exec_BIT_2_D (s : State) : Outcome := bitLoc 2 (.reg .D) s

/-- BIT 2,E: CB 53 (R184). -/
def exec_BIT_2_E (s : State) : Outcome := bitLoc 2 (.reg .E) s

/-- BIT 2,H: CB 54 (R184). -/
def exec_BIT_2_H (s : State) : Outcome := bitLoc 2 (.reg .H) s

/-- BIT 2,L: CB 55 (R184). -/
def exec_BIT_2_L (s : State) : Outcome := bitLoc 2 (.reg .L) s

/-- BIT 2,(HL): CB 56 (R184). -/
def exec_BIT_2_HLm (s : State) : Outcome := bitLoc 2 .HLm s

/-- BIT 2,A: CB 57 (R184). -/
def exec_BIT_2_A (s : State) : Outcome := bitLoc 2 (.reg .A) s

/-- BIT 3,B: CB 58 (R184). -/
def exec_BIT_3_B (s : State) : Outcome := bitLoc 3 (.reg .B) s

/-- BIT 3,C: CB 59 (R184). -/
def exec_BIT_3_C (s : State) : Outcome := bitLoc 3 (.reg .C) s

/-- BIT 3,D: CB 5A (R184). -/
def exec_BIT_3_D (s : State) : Outcome := bitLoc 3 (.reg .D) s

/-- BIT 3,E: CB 5B (R184). -/
def exec_BIT_3_E (s : State) : Outcome := bitLoc 3 (.reg .E) s

/-- BIT 3,H: CB 5C (R184). -/
def exec_BIT_3_H (s : State) : Outcome := bitLoc 3 (.reg .H) s

/-- BIT 3,L: CB 5D (R184). -/
def exec_BIT_3_L (s : State) : Outcome := bitLoc 3 (.reg .L) s

/-- BIT 3,(HL): CB 5E (R184). -/
def exec_BIT_3_HLm (s : State) : Outcome := bitLoc 3 .HLm s

/-- BIT 3,A: CB 5F (R184). -/
def exec_BIT_3_A (s : State) : Outcome := bitLoc 3 (.reg .A) s

/-- BIT 4,B: CB 60 (R184). -/
def exec_BIT_4_B (s : State) : Outcome := bitLoc 4 (.reg .B) s

/-- BIT 4,C: CB 61 (R184). -/
def exec_BIT_4_C (s : State) : Outcome := bitLoc 4 (.reg .C) s

/-- BIT 4,D: CB 62 (R184). -/
def exec_BIT_4_D (s : State) : Outcome := bitLoc 4 (.reg .D) s

/-- BIT 4,E: CB 63 (R184). -/
def exec_BIT_4_E (s : State) : Outcome := bitLoc 4 (.reg .E) s

/-- BIT 4,H: CB 64 (R184). -/
def exec_BIT_4_H (s : State) : Outcome := bitLoc 4 (.reg .H) s

/-- BIT 4,L: CB 65 (R184). -/
def exec_BIT_4_L (s : State) : Outcome := bitLoc 4 (.reg .L) s

/-- BIT 4,(HL): CB 66 (R184). -/
def exec_BIT_4_HLm (s : State) : Outcome := bitLoc 4 .HLm s

/-- BIT 4,A: CB 67 (R184). -/
def exec_BIT_4_A (s : State) : Outcome := bitLoc 4 (.reg .A) s

/-- BIT 5,B: CB 68 (R184). -/
def exec_BIT_5_B (s : State) : Outcome := bitLoc 5 (.reg .B) s

/-- BIT 5,C: CB 69 (R184). -/
def exec_BIT_5_C (s : State) : Outcome := bitLoc 5 (.reg .C) s

/-- BIT 5,D: CB 6A (R184). -/
def exec_BIT_5_D (s : State) : Outcome := bitLoc 5 (.reg .D) s

/-- BIT 5,E: CB 6B (R184). -/
def exec_BIT_5_E (s : State) : Outcome := bitLoc 5 (.reg .E) s

/-- BIT 5,H: CB 6C (R184). -/
def exec_BIT_5_H (s : State) : Outcome := bitLoc 5 (.reg .H) s

/-- BIT 5,L: CB 6D (R184). -/
def exec_BIT_5_L (s : State) : Outcome := bitLoc 5 (.reg .L) s

/-- BIT 5,(HL): CB 6E (R184). -/
def exec_BIT_5_HLm (s : State) : Outcome := bitLoc 5 .HLm s

/-- BIT 5,A: CB 6F (R184). -/
def exec_BIT_5_A (s : State) : Outcome := bitLoc 5 (.reg .A) s

/-- BIT 6,B: CB 70 (R184). -/
def exec_BIT_6_B (s : State) : Outcome := bitLoc 6 (.reg .B) s

/-- BIT 6,C: CB 71 (R184). -/
def exec_BIT_6_C (s : State) : Outcome := bitLoc 6 (.reg .C) s

/-- BIT 6,D: CB 72 (R184). -/
def exec_BIT_6_D (s : State) : Outcome := bitLoc 6 (.reg .D) s

/-- BIT 6,E: CB 73 (R184). -/
def exec_BIT_6_E (s : State) : Outcome := bitLoc 6 (.reg .E) s

/-- BIT 6,H: CB 74 (R184). -/
def exec_BIT_6_H (s : State) : Outcome := bitLoc 6 (.reg .H) s

/-- BIT 6,L: CB 75 (R184). -/
def exec_BIT_6_L (s : State) : Outcome := bitLoc 6 (.reg .L) s

/-- BIT 6,(HL): CB 76 (R184). -/
def exec_BIT_6_HLm (s : State) : Outcome := bitLoc 6 .HLm s

/-- BIT 6,A: CB 77 (R184). -/
def exec_BIT_6_A (s : State) : Outcome := bitLoc 6 (.reg .A) s

/-- BIT 7,B: CB 78 (R184). -/
def exec_BIT_7_B (s : State) : Outcome := bitLoc 7 (.reg .B) s

/-- BIT 7,C: CB 79 (R184). -/
def exec_BIT_7_C (s : State) : Outcome := bitLoc 7 (.reg .C) s

/-- BIT 7,D: CB 7A (R184). -/
def exec_BIT_7_D (s : State) : Outcome := bitLoc 7 (.reg .D) s

/-- BIT 7,E: CB 7B (R184). -/
def exec_BIT_7_E (s : State) : Outcome := bitLoc 7 (.reg .E) s

/-- BIT 7,H: CB 7C (R184). -/
def exec_BIT_7_H (s : State) : Outcome := bitLoc 7 (.reg .H) s

/-- BIT 7,L: CB 7D (R184). -/
def exec_BIT_7_L (s : State) : Outcome := bitLoc 7 (.reg .L) s

/-- BIT 7,(HL): CB 7E (R184). -/
def exec_BIT_7_HLm (s : State) : Outcome := bitLoc 7 .HLm s

/-- BIT 7,A: CB 7F (R184). -/
def exec_BIT_7_A (s : State) : Outcome := bitLoc 7 (.reg .A) s

/-- RES 0,B: CB 80 (R185). -/
def exec_RES_0_B (s : State) : Outcome := resLoc 0 (.reg .B) s

/-- RES 0,C: CB 81 (R185). -/
def exec_RES_0_C (s : State) : Outcome := resLoc 0 (.reg .C) s

/-- RES 0,D: CB 82 (R185). -/
def exec_RES_0_D (s : State) : Outcome := resLoc 0 (.reg .D) s

/-- RES 0,E: CB 83 (R185). -/
def exec_RES_0_E (s : State) : Outcome := resLoc 0 (.reg .E) s

/-- RES 0,H: CB 84 (R185). -/
def exec_RES_0_H (s : State) : Outcome := resLoc 0 (.reg .H) s

/-- RES 0,L: CB 85 (R185). -/
def exec_RES_0_L (s : State) : Outcome := resLoc 0 (.reg .L) s

/-- RES 0,(HL): CB 86 (R185). -/
def exec_RES_0_HLm (s : State) : Outcome := resLoc 0 .HLm s

/-- RES 0,A: CB 87 (R185). -/
def exec_RES_0_A (s : State) : Outcome := resLoc 0 (.reg .A) s

/-- RES 1,B: CB 88 (R185). -/
def exec_RES_1_B (s : State) : Outcome := resLoc 1 (.reg .B) s

/-- RES 1,C: CB 89 (R185). -/
def exec_RES_1_C (s : State) : Outcome := resLoc 1 (.reg .C) s

/-- RES 1,D: CB 8A (R185). -/
def exec_RES_1_D (s : State) : Outcome := resLoc 1 (.reg .D) s

/-- RES 1,E: CB 8B (R185). -/
def exec_RES_1_E (s : State) : Outcome := resLoc 1 (.reg .E) s

/-- RES 1,H: CB 8C (R185). -/
def exec_RES_1_H (s : State) : Outcome := resLoc 1 (.reg .H) s

/-- RES 1,L: CB 8D (R185). -/
def exec_RES_1_L (s : State) : Outcome := resLoc 1 (.reg .L) s

/-- RES 1,(HL): CB 8E (R185). -/
def exec_RES_1_HLm (s : State) : Outcome := resLoc 1 .HLm s

/-- RES 1,A: CB 8F (R185). -/
def exec_RES_1_A (s : State) : Outcome := resLoc 1 (.reg .A) s

/-- RES 2,B: CB 90 (R185). -/
def exec_RES_2_B (s : State) : Outcome := resLoc 2 (.reg .B) s

/-- RES 2,C: CB 91 (R185). -/
def exec_RES_2_C (s : State) : Outcome := resLoc 2 (.reg .C) s

/-- RES 2,D: CB 92 (R185). -/
def exec_RES_2_D (s : State) : Outcome := resLoc 2 (.reg .D) s

/-- RES 2,E: CB 93 (R185). -/
def exec_RES_2_E (s : State) : Outcome := resLoc 2 (.reg .E) s

/-- RES 2,H: CB 94 (R185). -/
def exec_RES_2_H (s : State) : Outcome := resLoc 2 (.reg .H) s

/-- RES 2,L: CB 95 (R185). -/
def exec_RES_2_L (s : State) : Outcome := resLoc 2 (.reg .L) s

/-- RES 2,(HL): CB 96 (R185). -/
def exec_RES_2_HLm (s : State) : Outcome := resLoc 2 .HLm s

/-- RES 2,A: CB 97 (R185). -/
def exec_RES_2_A (s : State) : Outcome := resLoc 2 (.reg .A) s

/-- RES 3,B: CB 98 (R185). -/
def exec_RES_3_B (s : State) : Outcome := resLoc 3 (.reg .B) s

/-- RES 3,C: CB 99 (R185). -/
def exec_RES_3_C (s : State) : Outcome := resLoc 3 (.reg .C) s

/-- RES 3,D: CB 9A (R185). -/
def exec_RES_3_D (s : State) : Outcome := resLoc 3 (.reg .D) s

/-- RES 3,E: CB 9B (R185). -/
def exec_RES_3_E (s : State) : Outcome := resLoc 3 (.reg .E) s

/-- RES 3,H: CB 9C (R185). -/
def exec_RES_3_H (s : State) : Outcome := resLoc 3 (.reg .H) s

/-- RES 3,L: CB 9D (R185). -/
def exec_RES_3_L (s : State) : Outcome := resLoc 3 (.reg .L) s

/-- RES 3,(HL): CB 9E (R185). -/
def exec_RES_3_HLm (s : State) : Outcome := resLoc 3 .HLm s

/-- RES 3,A: CB 9F (R185). -/
def exec_RES_3_A (s : State) : Outcome := resLoc 3 (.reg .A) s

/-- RES 4,B: CB A0 (R185). -/
def exec_RES_4_B (s : State) : Outcome := resLoc 4 (.reg .B) s

/-- RES 4,C: CB A1 (R185). -/
def exec_RES_4_C (s : State) : Outcome := resLoc 4 (.reg .C) s

/-- RES 4,D: CB A2 (R185). -/
def exec_RES_4_D (s : State) : Outcome := resLoc 4 (.reg .D) s

/-- RES 4,E: CB A3 (R185). -/
def exec_RES_4_E (s : State) : Outcome := resLoc 4 (.reg .E) s

/-- RES 4,H: CB A4 (R185). -/
def exec_RES_4_H (s : State) : Outcome := resLoc 4 (.reg .H) s

/-- RES 4,L: CB A5 (R185). -/
def exec_RES_4_L (s : State) : Outcome := resLoc 4 (.reg .L) s

/-- RES 4,(HL): CB A6 (R185). -/
def exec_RES_4_HLm (s : State) : Outcome := resLoc 4 .HLm s

/-- RES 4,A: CB A7 (R185). -/
def exec_RES_4_A (s : State) : Outcome := resLoc 4 (.reg .A) s

/-- RES 5,B: CB A8 (R185). -/
def exec_RES_5_B (s : State) : Outcome := resLoc 5 (.reg .B) s

/-- RES 5,C: CB A9 (R185). -/
def exec_RES_5_C (s : State) : Outcome := resLoc 5 (.reg .C) s

/-- RES 5,D: CB AA (R185). -/
def exec_RES_5_D (s : State) : Outcome := resLoc 5 (.reg .D) s

/-- RES 5,E: CB AB (R185). -/
def exec_RES_5_E (s : State) : Outcome := resLoc 5 (.reg .E) s

/-- RES 5,H: CB AC (R185). -/
def exec_RES_5_H (s : State) : Outcome := resLoc 5 (.reg .H) s

/-- RES 5,L: CB AD (R185). -/
def exec_RES_5_L (s : State) : Outcome := resLoc 5 (.reg .L) s

/-- RES 5,(HL): CB AE (R185). -/
def exec_RES_5_HLm (s : State) : Outcome := resLoc 5 .HLm s

/-- RES 5,A: CB AF (R185). -/
def exec_RES_5_A (s : State) : Outcome := resLoc 5 (.reg .A) s

/-- RES 6,B: CB B0 (R185). -/
def exec_RES_6_B (s : State) : Outcome := resLoc 6 (.reg .B) s

/-- RES 6,C: CB B1 (R185). -/
def exec_RES_6_C (s : State) : Outcome := resLoc 6 (.reg .C) s

/-- RES 6,D: CB B2 (R185). -/
def exec_RES_6_D (s : State) : Outcome := resLoc 6 (.reg .D) s

/-- RES 6,E: CB B3 (R185). -/
def exec_RES_6_E (s : State) : Outcome := resLoc 6 (.reg .E) s

/-- RES 6,H: CB B4 (R185). -/
def exec_RES_6_H (s : State) : Outcome := resLoc 6 (.reg .H) s

/-- RES 6,L: CB B5 (R185). -/
def exec_RES_6_L (s : State) : Outcome := resLoc 6 (.reg .L) s

/-- RES 6,(HL): CB B6 (R185). -/
def exec_RES_6_HLm (s : State) : Outcome := resLoc 6 .HLm s

/-- RES 6,A: CB B7 (R185). -/
def exec_RES_6_A (s : State) : Outcome := resLoc 6 (.reg .A) s

/-- RES 7,B: CB B8 (R185). -/
def exec_RES_7_B (s : State) : Outcome := resLoc 7 (.reg .B) s

/-- RES 7,C: CB B9 (R185). -/
def exec_RES_7_C (s : State) : Outcome := resLoc 7 (.reg .C) s

/-- RES 7,D: CB BA (R185). -/
def exec_RES_7_D (s : State) : Outcome := resLoc 7 (.reg .D) s

/-- RES 7,E: CB BB (R185). -/
def exec_RES_7_E (s : State) : Outcome := resLoc 7 (.reg .E) s

/-- RES 7,H: CB BC (R185). -/
def exec_RES_7_H (s : State) : Outcome := resLoc 7 (.reg .H) s

/-- RES 7,L: CB BD (R185). -/
def exec_RES_7_L (s : State) : Outcome := resLoc 7 (.reg .L) s

/-- RES 7,(HL): CB BE (R185). -/
def exec_RES_7_HLm (s : State) : Outcome := resLoc 7 .HLm s

/-- RES 7,A: CB BF (R185). -/
def exec_RES_7_A (s : State) : Outcome := resLoc 7 (.reg .A) s

/-- SET 0,B: CB C0 (R186). -/
def exec_SET_0_B (s : State) : Outcome := setLoc 0 (.reg .B) s

/-- SET 0,C: CB C1 (R186). -/
def exec_SET_0_C (s : State) : Outcome := setLoc 0 (.reg .C) s

/-- SET 0,D: CB C2 (R186). -/
def exec_SET_0_D (s : State) : Outcome := setLoc 0 (.reg .D) s

/-- SET 0,E: CB C3 (R186). -/
def exec_SET_0_E (s : State) : Outcome := setLoc 0 (.reg .E) s

/-- SET 0,H: CB C4 (R186). -/
def exec_SET_0_H (s : State) : Outcome := setLoc 0 (.reg .H) s

/-- SET 0,L: CB C5 (R186). -/
def exec_SET_0_L (s : State) : Outcome := setLoc 0 (.reg .L) s

/-- SET 0,(HL): CB C6 (R186). -/
def exec_SET_0_HLm (s : State) : Outcome := setLoc 0 .HLm s

/-- SET 0,A: CB C7 (R186). -/
def exec_SET_0_A (s : State) : Outcome := setLoc 0 (.reg .A) s

/-- SET 1,B: CB C8 (R186). -/
def exec_SET_1_B (s : State) : Outcome := setLoc 1 (.reg .B) s

/-- SET 1,C: CB C9 (R186). -/
def exec_SET_1_C (s : State) : Outcome := setLoc 1 (.reg .C) s

/-- SET 1,D: CB CA (R186). -/
def exec_SET_1_D (s : State) : Outcome := setLoc 1 (.reg .D) s

/-- SET 1,E: CB CB (R186). -/
def exec_SET_1_E (s : State) : Outcome := setLoc 1 (.reg .E) s

/-- SET 1,H: CB CC (R186). -/
def exec_SET_1_H (s : State) : Outcome := setLoc 1 (.reg .H) s

/-- SET 1,L: CB CD (R186). -/
def exec_SET_1_L (s : State) : Outcome := setLoc 1 (.reg .L) s

/-- SET 1,(HL): CB CE (R186). -/
def exec_SET_1_HLm (s : State) : Outcome := setLoc 1 .HLm s

/-- SET 1,A: CB CF (R186). -/
def exec_SET_1_A (s : State) : Outcome := setLoc 1 (.reg .A) s

/-- SET 2,B: CB D0 (R186). -/
def exec_SET_2_B (s : State) : Outcome := setLoc 2 (.reg .B) s

/-- SET 2,C: CB D1 (R186). -/
def exec_SET_2_C (s : State) : Outcome := setLoc 2 (.reg .C) s

/-- SET 2,D: CB D2 (R186). -/
def exec_SET_2_D (s : State) : Outcome := setLoc 2 (.reg .D) s

/-- SET 2,E: CB D3 (R186). -/
def exec_SET_2_E (s : State) : Outcome := setLoc 2 (.reg .E) s

/-- SET 2,H: CB D4 (R186). -/
def exec_SET_2_H (s : State) : Outcome := setLoc 2 (.reg .H) s

/-- SET 2,L: CB D5 (R186). -/
def exec_SET_2_L (s : State) : Outcome := setLoc 2 (.reg .L) s

/-- SET 2,(HL): CB D6 (R186). -/
def exec_SET_2_HLm (s : State) : Outcome := setLoc 2 .HLm s

/-- SET 2,A: CB D7 (R186). -/
def exec_SET_2_A (s : State) : Outcome := setLoc 2 (.reg .A) s

/-- SET 3,B: CB D8 (R186). -/
def exec_SET_3_B (s : State) : Outcome := setLoc 3 (.reg .B) s

/-- SET 3,C: CB D9 (R186). -/
def exec_SET_3_C (s : State) : Outcome := setLoc 3 (.reg .C) s

/-- SET 3,D: CB DA (R186). -/
def exec_SET_3_D (s : State) : Outcome := setLoc 3 (.reg .D) s

/-- SET 3,E: CB DB (R186). -/
def exec_SET_3_E (s : State) : Outcome := setLoc 3 (.reg .E) s

/-- SET 3,H: CB DC (R186). -/
def exec_SET_3_H (s : State) : Outcome := setLoc 3 (.reg .H) s

/-- SET 3,L: CB DD (R186). -/
def exec_SET_3_L (s : State) : Outcome := setLoc 3 (.reg .L) s

/-- SET 3,(HL): CB DE (R186). -/
def exec_SET_3_HLm (s : State) : Outcome := setLoc 3 .HLm s

/-- SET 3,A: CB DF (R186). -/
def exec_SET_3_A (s : State) : Outcome := setLoc 3 (.reg .A) s

/-- SET 4,B: CB E0 (R186). -/
def exec_SET_4_B (s : State) : Outcome := setLoc 4 (.reg .B) s

/-- SET 4,C: CB E1 (R186). -/
def exec_SET_4_C (s : State) : Outcome := setLoc 4 (.reg .C) s

/-- SET 4,D: CB E2 (R186). -/
def exec_SET_4_D (s : State) : Outcome := setLoc 4 (.reg .D) s

/-- SET 4,E: CB E3 (R186). -/
def exec_SET_4_E (s : State) : Outcome := setLoc 4 (.reg .E) s

/-- SET 4,H: CB E4 (R186). -/
def exec_SET_4_H (s : State) : Outcome := setLoc 4 (.reg .H) s

/-- SET 4,L: CB E5 (R186). -/
def exec_SET_4_L (s : State) : Outcome := setLoc 4 (.reg .L) s

/-- SET 4,(HL): CB E6 (R186). -/
def exec_SET_4_HLm (s : State) : Outcome := setLoc 4 .HLm s

/-- SET 4,A: CB E7 (R186). -/
def exec_SET_4_A (s : State) : Outcome := setLoc 4 (.reg .A) s

/-- SET 5,B: CB E8 (R186). -/
def exec_SET_5_B (s : State) : Outcome := setLoc 5 (.reg .B) s

/-- SET 5,C: CB E9 (R186). -/
def exec_SET_5_C (s : State) : Outcome := setLoc 5 (.reg .C) s

/-- SET 5,D: CB EA (R186). -/
def exec_SET_5_D (s : State) : Outcome := setLoc 5 (.reg .D) s

/-- SET 5,E: CB EB (R186). -/
def exec_SET_5_E (s : State) : Outcome := setLoc 5 (.reg .E) s

/-- SET 5,H: CB EC (R186). -/
def exec_SET_5_H (s : State) : Outcome := setLoc 5 (.reg .H) s

/-- SET 5,L: CB ED (R186). -/
def exec_SET_5_L (s : State) : Outcome := setLoc 5 (.reg .L) s

/-- SET 5,(HL): CB EE (R186). -/
def exec_SET_5_HLm (s : State) : Outcome := setLoc 5 .HLm s

/-- SET 5,A: CB EF (R186). -/
def exec_SET_5_A (s : State) : Outcome := setLoc 5 (.reg .A) s

/-- SET 6,B: CB F0 (R186). -/
def exec_SET_6_B (s : State) : Outcome := setLoc 6 (.reg .B) s

/-- SET 6,C: CB F1 (R186). -/
def exec_SET_6_C (s : State) : Outcome := setLoc 6 (.reg .C) s

/-- SET 6,D: CB F2 (R186). -/
def exec_SET_6_D (s : State) : Outcome := setLoc 6 (.reg .D) s

/-- SET 6,E: CB F3 (R186). -/
def exec_SET_6_E (s : State) : Outcome := setLoc 6 (.reg .E) s

/-- SET 6,H: CB F4 (R186). -/
def exec_SET_6_H (s : State) : Outcome := setLoc 6 (.reg .H) s

/-- SET 6,L: CB F5 (R186). -/
def exec_SET_6_L (s : State) : Outcome := setLoc 6 (.reg .L) s

/-- SET 6,(HL): CB F6 (R186). -/
def exec_SET_6_HLm (s : State) : Outcome := setLoc 6 .HLm s

/-- SET 6,A: CB F7 (R186). -/
def exec_SET_6_A (s : State) : Outcome := setLoc 6 (.reg .A) s

/-- SET 7,B: CB F8 (R186). -/
def exec_SET_7_B (s : State) : Outcome := setLoc 7 (.reg .B) s

/-- SET 7,C: CB F9 (R186). -/
def exec_SET_7_C (s : State) : Outcome := setLoc 7 (.reg .C) s

/-- SET 7,D: CB FA (R186). -/
def exec_SET_7_D (s : State) : Outcome := setLoc 7 (.reg .D) s

/-- SET 7,E: CB FB (R186). -/
def exec_SET_7_E (s : State) : Outcome := setLoc 7 (.reg .E) s

/-- SET 7,H: CB FC (R186). -/
def exec_SET_7_H (s : State) : Outcome := setLoc 7 (.reg .H) s

/-- SET 7,L: CB FD (R186). -/
def exec_SET_7_L (s : State) : Outcome := setLoc 7 (.reg .L) s

/-- SET 7,(HL): CB FE (R186). -/
def exec_SET_7_HLm (s : State) : Outcome := setLoc 7 .HLm s

/-- SET 7,A: CB FF (R186). -/
def exec_SET_7_A (s : State) : Outcome := setLoc 7 (.reg .A) s

end Sys2Proof.Machine
end

