-- ==== Sys2Proof/Machine/Control.lean ====
section
/-! DEFINITION. Control transfer (spec/45_control.md): no flag is written; `pc <- t` is `State.jump`, and a condition
that does not hold leaves everything but PC, which moves on by the length (R200). One meaning per row of the opcode table, over the shared operations. -/

namespace Sys2Proof.Machine

/-- `pc <- t` (R201). -/
def jumpTo (t : Word) (s : State) : Outcome := .next (s.jump t)

/-- `push16(here +16 len); pc <- t` by an instruction of `len` bytes (R206, R211). -/
def callTo (len : Nat) (t : Word) (s : State) : Outcome := .next ((s.push16 (s.nextAddr len)).jump t)

/-- `t <- pop16(); pc <- t` (R208). -/
def returnTo (s : State) : State := s.popped.jump s.popWord

/-- `JP cc,a16` (R202). -/
def jpIf (cc : Cond) (a : Word) (s : State) : Outcome := if s.holds cc then jumpTo a s else seq 3 s

/-- `JR cc,e8` (R205). -/
def jrIf (cc : Cond) (e : Byte) (s : State) : Outcome := if s.holds cc then jumpTo (s.relTarget e) s else seq 2 s

/-- `CALL cc,a16` (R207). -/
def callIf (cc : Cond) (a : Word) (s : State) : Outcome := if s.holds cc then callTo 3 a s else seq 3 s

/-- `RET cc` (R209). -/
def retIf (cc : Cond) (s : State) : Outcome := if s.holds cc then .next (returnTo s) else seq 1 s

/-- `RST t`: "a fixed-target CALL" of length 1 (R211). -/
def rstTo (t : Byte) (s : State) : Outcome := callTo 1 (zext16 t) s

/-! ## The rows of the opcode table -/

/-- JP a16: C3 (R201). -/
def exec_JP_a16 (a : Word) (s : State) : Outcome := jumpTo a s

/-- JP NZ,a16: C2 (R202). -/
def exec_JP_NZ_a16 (a : Word) (s : State) : Outcome := jpIf .NZ a s

/-- JP Z,a16: CA (R202). -/
def exec_JP_Z_a16 (a : Word) (s : State) : Outcome := jpIf .Z a s

/-- JP NC,a16: D2 (R202). -/
def exec_JP_NC_a16 (a : Word) (s : State) : Outcome := jpIf .NC a s

/-- JP C,a16: DA (R202). -/
def exec_JP_C_a16 (a : Word) (s : State) : Outcome := jpIf .C a s

/-- JP (HL): E9 (R203). -/
def exec_JP_HLm (s : State) : Outcome := jumpTo s.hl s

/-- JR e8: 18 (R204). -/
def exec_JR_e8 (e : Byte) (s : State) : Outcome := jumpTo (s.relTarget e) s

/-- JR NZ,e8: 20 (R205). -/
def exec_JR_NZ_e8 (e : Byte) (s : State) : Outcome := jrIf .NZ e s

/-- JR Z,e8: 28 (R205). -/
def exec_JR_Z_e8 (e : Byte) (s : State) : Outcome := jrIf .Z e s

/-- JR NC,e8: 30 (R205). -/
def exec_JR_NC_e8 (e : Byte) (s : State) : Outcome := jrIf .NC e s

/-- JR C,e8: 38 (R205). -/
def exec_JR_C_e8 (e : Byte) (s : State) : Outcome := jrIf .C e s

/-- CALL a16: CD (R206). -/
def exec_CALL_a16 (a : Word) (s : State) : Outcome := callTo 3 a s

/-- CALL NZ,a16: C4 (R207). -/
def exec_CALL_NZ_a16 (a : Word) (s : State) : Outcome := callIf .NZ a s

/-- CALL Z,a16: CC (R207). -/
def exec_CALL_Z_a16 (a : Word) (s : State) : Outcome := callIf .Z a s

/-- CALL NC,a16: D4 (R207). -/
def exec_CALL_NC_a16 (a : Word) (s : State) : Outcome := callIf .NC a s

/-- CALL C,a16: DC (R207). -/
def exec_CALL_C_a16 (a : Word) (s : State) : Outcome := callIf .C a s

/-- RET: C9 (R208). -/
def exec_RET (s : State) : Outcome := .next (returnTo s)

/-- RET NZ: C0 (R209). -/
def exec_RET_NZ (s : State) : Outcome := retIf .NZ s

/-- RET Z: C8 (R209). -/
def exec_RET_Z (s : State) : Outcome := retIf .Z s

/-- RET NC: D0 (R209). -/
def exec_RET_NC (s : State) : Outcome := retIf .NC s

/-- RET C: D8 (R209). -/
def exec_RET_C (s : State) : Outcome := retIf .C s

/-- RETI: D9 (R210). -/
def exec_RETI (s : State) : Outcome := .next ((returnTo s).issue .intEnable)

/-- RST 0x00: C7 (R211). -/
def exec_RST_0x00 (s : State) : Outcome := rstTo 0x00 s

/-- RST 0x08: CF (R211). -/
def exec_RST_0x08 (s : State) : Outcome := rstTo 0x0008 s

/-- RST 0x10: D7 (R211). -/
def exec_RST_0x10 (s : State) : Outcome := rstTo 0x0010 s

/-- RST 0x18: DF (R211). -/
def exec_RST_0x18 (s : State) : Outcome := rstTo 0x0018 s

/-- RST 0x20: E7 (R211). -/
def exec_RST_0x20 (s : State) : Outcome := rstTo 0x0020 s

/-- RST 0x28: EF (R211). -/
def exec_RST_0x28 (s : State) : Outcome := rstTo 0x0028 s

/-- RST 0x30: F7 (R211). -/
def exec_RST_0x30 (s : State) : Outcome := rstTo 0x0030 s

/-- RST 0x38: FF (R211). -/
def exec_RST_0x38 (s : State) : Outcome := rstTo 0x0038 s

end Sys2Proof.Machine
end

