-- ==== Sys2Proof/Machine/Load8.lean ====
section
/-! DEFINITION. The 8-bit loads (spec/40_load8.md). Common to all (R119): no flag is written, nothing branches,
every memory access is one `read8` or one `write8`. One meaning per row of the opcode table, over the shared operations. -/

namespace Sys2Proof.Machine

/-- `LD rd,rs`: `x[rd] <- x[rs]` (R100). -/
def ldReg (rd rs : Reg8) (s : State) : Outcome := seq 1 (s.set8 rd (s.get8 rs))

/-- `LD r,d8`: `x[r] <- d8` (R101). -/
def ldImm (r : Reg8) (d : Byte) (s : State) : Outcome := seq 2 (s.set8 r d)

/-- `LD r,(HL)`: `x[r] <- MemRead(xx[HL], 1)` (R102). -/
def ldFromHL (r : Reg8) (s : State) : Outcome := seq 1 (s.set8 r (s.read8 .data0 s.hl))

/-- `LD (HL),r`: `MemWrite(xx[HL], 1, x[r])` (R103). -/
def ldToHL (r : Reg8) (s : State) : Outcome := seq 1 (s.write8 s.hl (s.get8 r))

/-- `x[A] <- MemRead(addr, 1)` by an instruction of `len` bytes (R105, R106, R109, R111, R113). -/
def loadA (len : Nat) (addr : Word) (s : State) : Outcome := seq len (s.set8 .A (s.read8 .data0 addr))

/-- `MemWrite(addr, 1, x[A])` by an instruction of `len` bytes (R107, R108, R110, R112, R114). -/
def storeA (len : Nat) (addr : Word) (s : State) : Outcome := seq len (s.write8 addr s.a)

/-- `xx[HL] <- xx[HL] + delta`, the step after the access of LDI and LDD (R115 to R118). -/
def State.bumpHL (s : State) (delta : Word) : State := s.set16 .HL (s.hl + delta)

/-! ## The rows of the opcode table -/

/-- LD B,B: 40 (R100). -/
def exec_LD_B_B (s : State) : Outcome := ldReg .B .B s

/-- LD B,C: 41 (R100). -/
def exec_LD_B_C (s : State) : Outcome := ldReg .B .C s

/-- LD B,D: 42 (R100). -/
def exec_LD_B_D (s : State) : Outcome := ldReg .B .D s

/-- LD B,E: 43 (R100). -/
def exec_LD_B_E (s : State) : Outcome := ldReg .B .E s

/-- LD B,H: 44 (R100). -/
def exec_LD_B_H (s : State) : Outcome := ldReg .B .H s

/-- LD B,L: 45 (R100). -/
def exec_LD_B_L (s : State) : Outcome := ldReg .B .L s

/-- LD B,A: 47 (R100). -/
def exec_LD_B_A (s : State) : Outcome := ldReg .B .A s

/-- LD C,B: 48 (R100). -/
def exec_LD_C_B (s : State) : Outcome := ldReg .C .B s

/-- LD C,C: 49 (R100). -/
def exec_LD_C_C (s : State) : Outcome := ldReg .C .C s

/-- LD C,D: 4A (R100). -/
def exec_LD_C_D (s : State) : Outcome := ldReg .C .D s

/-- LD C,E: 4B (R100). -/
def exec_LD_C_E (s : State) : Outcome := ldReg .C .E s

/-- LD C,H: 4C (R100). -/
def exec_LD_C_H (s : State) : Outcome := ldReg .C .H s

/-- LD C,L: 4D (R100). -/
def exec_LD_C_L (s : State) : Outcome := ldReg .C .L s

/-- LD C,A: 4F (R100). -/
def exec_LD_C_A (s : State) : Outcome := ldReg .C .A s

/-- LD D,B: 50 (R100). -/
def exec_LD_D_B (s : State) : Outcome := ldReg .D .B s

/-- LD D,C: 51 (R100). -/
def exec_LD_D_C (s : State) : Outcome := ldReg .D .C s

/-- LD D,D: 52 (R100). -/
def exec_LD_D_D (s : State) : Outcome := ldReg .D .D s

/-- LD D,E: 53 (R100). -/
def exec_LD_D_E (s : State) : Outcome := ldReg .D .E s

/-- LD D,H: 54 (R100). -/
def exec_LD_D_H (s : State) : Outcome := ldReg .D .H s

/-- LD D,L: 55 (R100). -/
def exec_LD_D_L (s : State) : Outcome := ldReg .D .L s

/-- LD D,A: 57 (R100). -/
def exec_LD_D_A (s : State) : Outcome := ldReg .D .A s

/-- LD E,B: 58 (R100). -/
def exec_LD_E_B (s : State) : Outcome := ldReg .E .B s

/-- LD E,C: 59 (R100). -/
def exec_LD_E_C (s : State) : Outcome := ldReg .E .C s

/-- LD E,D: 5A (R100). -/
def exec_LD_E_D (s : State) : Outcome := ldReg .E .D s

/-- LD E,E: 5B (R100). -/
def exec_LD_E_E (s : State) : Outcome := ldReg .E .E s

/-- LD E,H: 5C (R100). -/
def exec_LD_E_H (s : State) : Outcome := ldReg .E .H s

/-- LD E,L: 5D (R100). -/
def exec_LD_E_L (s : State) : Outcome := ldReg .E .L s

/-- LD E,A: 5F (R100). -/
def exec_LD_E_A (s : State) : Outcome := ldReg .E .A s

/-- LD H,B: 60 (R100). -/
def exec_LD_H_B (s : State) : Outcome := ldReg .H .B s

/-- LD H,C: 61 (R100). -/
def exec_LD_H_C (s : State) : Outcome := ldReg .H .C s

/-- LD H,D: 62 (R100). -/
def exec_LD_H_D (s : State) : Outcome := ldReg .H .D s

/-- LD H,E: 63 (R100). -/
def exec_LD_H_E (s : State) : Outcome := ldReg .H .E s

/-- LD H,H: 64 (R100). -/
def exec_LD_H_H (s : State) : Outcome := ldReg .H .H s

/-- LD H,L: 65 (R100). -/
def exec_LD_H_L (s : State) : Outcome := ldReg .H .L s

/-- LD H,A: 67 (R100). -/
def exec_LD_H_A (s : State) : Outcome := ldReg .H .A s

/-- LD L,B: 68 (R100). -/
def exec_LD_L_B (s : State) : Outcome := ldReg .L .B s

/-- LD L,C: 69 (R100). -/
def exec_LD_L_C (s : State) : Outcome := ldReg .L .C s

/-- LD L,D: 6A (R100). -/
def exec_LD_L_D (s : State) : Outcome := ldReg .L .D s

/-- LD L,E: 6B (R100). -/
def exec_LD_L_E (s : State) : Outcome := ldReg .L .E s

/-- LD L,H: 6C (R100). -/
def exec_LD_L_H (s : State) : Outcome := ldReg .L .H s

/-- LD L,L: 6D (R100). -/
def exec_LD_L_L (s : State) : Outcome := ldReg .L .L s

/-- LD L,A: 6F (R100). -/
def exec_LD_L_A (s : State) : Outcome := ldReg .L .A s

/-- LD A,B: 78 (R100). -/
def exec_LD_A_B (s : State) : Outcome := ldReg .A .B s

/-- LD A,C: 79 (R100). -/
def exec_LD_A_C (s : State) : Outcome := ldReg .A .C s

/-- LD A,D: 7A (R100). -/
def exec_LD_A_D (s : State) : Outcome := ldReg .A .D s

/-- LD A,E: 7B (R100). -/
def exec_LD_A_E (s : State) : Outcome := ldReg .A .E s

/-- LD A,H: 7C (R100). -/
def exec_LD_A_H (s : State) : Outcome := ldReg .A .H s

/-- LD A,L: 7D (R100). -/
def exec_LD_A_L (s : State) : Outcome := ldReg .A .L s

/-- LD A,A: 7F (R100). -/
def exec_LD_A_A (s : State) : Outcome := ldReg .A .A s

/-- LD B,d8: 06 (R101). -/
def exec_LD_B_d8 (d : Byte) (s : State) : Outcome := ldImm .B d s

/-- LD C,d8: 0E (R101). -/
def exec_LD_C_d8 (d : Byte) (s : State) : Outcome := ldImm .C d s

/-- LD D,d8: 16 (R101). -/
def exec_LD_D_d8 (d : Byte) (s : State) : Outcome := ldImm .D d s

/-- LD E,d8: 1E (R101). -/
def exec_LD_E_d8 (d : Byte) (s : State) : Outcome := ldImm .E d s

/-- LD H,d8: 26 (R101). -/
def exec_LD_H_d8 (d : Byte) (s : State) : Outcome := ldImm .H d s

/-- LD L,d8: 2E (R101). -/
def exec_LD_L_d8 (d : Byte) (s : State) : Outcome := ldImm .L d s

/-- LD A,d8: 3E (R101). -/
def exec_LD_A_d8 (d : Byte) (s : State) : Outcome := ldImm .A d s

/-- LD B,(HL): 46 (R102). -/
def exec_LD_B_HLm (s : State) : Outcome := ldFromHL .B s

/-- LD C,(HL): 4E (R102). -/
def exec_LD_C_HLm (s : State) : Outcome := ldFromHL .C s

/-- LD D,(HL): 56 (R102). -/
def exec_LD_D_HLm (s : State) : Outcome := ldFromHL .D s

/-- LD E,(HL): 5E (R102). -/
def exec_LD_E_HLm (s : State) : Outcome := ldFromHL .E s

/-- LD H,(HL): 66 (R102). -/
def exec_LD_H_HLm (s : State) : Outcome := ldFromHL .H s

/-- LD L,(HL): 6E (R102). -/
def exec_LD_L_HLm (s : State) : Outcome := ldFromHL .L s

/-- LD A,(HL): 7E (R102). -/
def exec_LD_A_HLm (s : State) : Outcome := ldFromHL .A s

/-- LD (HL),B: 70 (R103). -/
def exec_LD_HLm_B (s : State) : Outcome := ldToHL .B s

/-- LD (HL),C: 71 (R103). -/
def exec_LD_HLm_C (s : State) : Outcome := ldToHL .C s

/-- LD (HL),D: 72 (R103). -/
def exec_LD_HLm_D (s : State) : Outcome := ldToHL .D s

/-- LD (HL),E: 73 (R103). -/
def exec_LD_HLm_E (s : State) : Outcome := ldToHL .E s

/-- LD (HL),H: 74 (R103). -/
def exec_LD_HLm_H (s : State) : Outcome := ldToHL .H s

/-- LD (HL),L: 75 (R103). -/
def exec_LD_HLm_L (s : State) : Outcome := ldToHL .L s

/-- LD (HL),A: 77 (R103). -/
def exec_LD_HLm_A (s : State) : Outcome := ldToHL .A s

/-- LD (HL),d8: 36 (R104). -/
def exec_LD_HLm_d8 (d : Byte) (s : State) : Outcome := seq 2 (s.write8 s.hl d)

/-- LD A,(BC): 0A (R105). -/
def exec_LD_A_BCm (s : State) : Outcome := loadA 1 (s.get16 .BC) s

/-- LD A,(DE): 1A (R106). -/
def exec_LD_A_DEm (s : State) : Outcome := loadA 1 (s.get16 .DE) s

/-- LD (BC),A: 02 (R107). -/
def exec_LD_BCm_A (s : State) : Outcome := storeA 1 (s.get16 .BC) s

/-- LD (DE),A: 12 (R108). -/
def exec_LD_DEm_A (s : State) : Outcome := storeA 1 (s.get16 .DE) s

/-- LD A,(a16): FA (R109). -/
def exec_LD_A_a16m (a : Word) (s : State) : Outcome := loadA 3 a s

/-- LD (a16),A: EA (R110). -/
def exec_LD_a16m_A (a : Word) (s : State) : Outcome := storeA 3 a s

/-- LDH A,(C): F2 (R111). -/
def exec_LDH_A_Cm (s : State) : Outcome := loadA 1 (highPage s.c) s

/-- LDH (C),A: E2 (R112). -/
def exec_LDH_Cm_A (s : State) : Outcome := storeA 1 (highPage s.c) s

/-- LDH A,(a8): F0 (R113). -/
def exec_LDH_A_a8m (o : Byte) (s : State) : Outcome := loadA 2 (highPage o) s

/-- LDH (a8),A: E0 (R114). -/
def exec_LDH_a8m_A (o : Byte) (s : State) : Outcome := storeA 2 (highPage o) s

/-- LDI A,(HL): 2A (R115). -/
def exec_LDI_A_HLm (s : State) : Outcome := seq 1 ((s.set8 .A (s.read8 .data0 s.hl)).bumpHL 1)

/-- LDI (HL),A: 22 (R116). -/
def exec_LDI_HLm_A (s : State) : Outcome := seq 1 ((s.write8 s.hl s.a).bumpHL 1)

/-- LDD A,(HL): 3A (R117). -/
def exec_LDD_A_HLm (s : State) : Outcome := seq 1 ((s.set8 .A (s.read8 .data0 s.hl)).bumpHL (-1))

/-- LDD (HL),A: 32 (R118). -/
def exec_LDD_HLm_A (s : State) : Outcome := seq 1 ((s.write8 s.hl s.a).bumpHL (-1))

end Sys2Proof.Machine
end

