-- ==== Sys2Proof/WellFormed.lean ====
section
/-! DEFINITION. Which typed terms are meaningful: the operands each variant of R74 admits, and launch registers (`LAUNCH_REGS`, D5). A term of
`Instr` needs no check, since its constructors are the rows of the opcode table; `Variant` terms can name a register the encoding tables
have no code for. -/

namespace Sys2Proof

/-- Table `r` (R64) has a code for every byte register but F. -/
def Reg8.inTableR (r : Reg8) : Bool := r ≠ .F

/-- An 8-bit operand location of table `r` (R64). -/
def Loc8.inTableR : Loc8 → Bool
  | .reg r => r.inTableR
  | .HLm => true

/-- Table `rp` (R65): BC, DE, HL, SP. -/
def Reg16.inTableRp (p : Reg16) : Bool := p = .BC ∨ p = .DE ∨ p = .HL ∨ p = .SP

/-- Table `rp2` (R65): BC, DE, HL, AF. -/
def Reg16.inTableRp2 (p : Reg16) : Bool := p = .BC ∨ p = .DE ∨ p = .HL ∨ p = .AF

/-- The eleven unassigned primary opcode bytes (R72). -/
def illegalBytes : List Byte := [0xD3, 0xDB, 0xDD, 0xE3, 0xE4, 0xEB, 0xEC, 0xED, 0xF4, 0xFC, 0xFD]

/-- The eight targets of RST (R69, R211). -/
def rstTargets : List Byte := [0x00, 0x08, 0x10, 0x18, 0x20, 0x28, 0x30, 0x38]

/-- The operands each variant takes (the `operands` column of R74). The bit index needs no check: it is typed as 3 bits (R77, R242). -/
def Variant.wellFormed : Variant → Bool
  | .LD_r_r rd rs => rd.inTableR && rs.inTableR
  | .LD_r_d8 r _ => r.inTableR
  | .LD_r_HLm r => r.inTableR
  | .LD_HLm_r r => r.inTableR
  | .LD_rr_d16 rr _ => rr.inTableRp
  | .PUSH_rr rr => rr.inTableRp2
  | .POP_rr rr => rr.inTableRp2 && rr ≠ .AF
  | .ALU_s _ s => s.inTableR
  | .INC_s s => s.inTableR
  | .DEC_s s => s.inTableR
  | .ADD_HL_rr rr => rr.inTableRp
  | .INC_rr rr => rr.inTableRp
  | .DEC_rr rr => rr.inTableRp
  | .ROT_s _ s => s.inTableR
  | .BIT_b_s _ s => s.inTableR
  | .RES_b_s _ s => s.inTableR
  | .SET_b_s _ s => s.inTableR
  | .RST t => t ∈ rstTargets
  | .ILLEGAL op => op ∈ illegalBytes
  | .LD_HLm_d8 _ | .LD_A_BC | .LD_A_DE | .LD_BC_A | .LD_DE_A | .LD_A_a16 _ | .LD_a16_A _ | .LDH_A_C | .LDH_C_A | .LDH_A_a8 _
  | .LDH_a8_A _ | .LDI_A_HL | .LDI_HL_A | .LDD_A_HL | .LDD_HL_A | .LD_a16_SP _ | .LD_SP_HL | .LDHL_SP_e8 _ | .POP_AF | .ALU_d8 _ _
  | .DAA | .CPL | .SCF | .CCF | .ADD_SP_e8 _ | .RLCA | .RLA | .RRCA | .RRA | .JP_a16 _ | .JP_cc_a16 _ _ | .JP_HL | .JR_e8 _
  | .JR_cc_e8 _ _ | .CALL_a16 _ | .CALL_cc_a16 _ _ | .RET | .RET_cc _ | .RETI | .NOP | .STOP | .HALT | .DI | .EI => true

/-- Launch registers are legal when the low nibble of F is zero (R11, D5 "A, F with low nibble 0"). -/
def Launch.wellFormed (l : Launch) : Bool := l.f &&& 0x0F = 0x00

end Sys2Proof
end

