-- ==== Sys2Proof/Decode.lean ====
section
/-! DEFINITION. The decoder and the encoder (spec/30_encoding.md). Decoding is by the two 256-entry tables of rules R70 and R71, written as
the spec prints them (row = high nibble, column = low nibble); encoding is by the bit patterns the instruction rules of files 40 to 46
give. `decodeFields` is the second form in which R70 and R71 give the tables, by the fields of R63. -/

namespace Sys2Proof

/-- The typed variant (R74) of each row of the opcode table: its columns `variant` and `source_fields`. -/
def Instr.variant : Instr → Variant
  | .NOP => .NOP
  | .LD_BC_d16 d => .LD_rr_d16 .BC d
  | .LD_BCm_A => .LD_BC_A
  | .INC_BC => .INC_rr .BC
  | .INC_B => .INC_s (.reg .B)
  | .DEC_B => .DEC_s (.reg .B)
  | .LD_B_d8 d => .LD_r_d8 .B d
  | .RLCA => .RLCA
  | .LD_a16m_SP a => .LD_a16_SP a
  | .ADD_HL_BC => .ADD_HL_rr .BC
  | .LD_A_BCm => .LD_A_BC
  | .DEC_BC => .DEC_rr .BC
  | .INC_C => .INC_s (.reg .C)
  | .DEC_C => .DEC_s (.reg .C)
  | .LD_C_d8 d => .LD_r_d8 .C d
  | .RRCA => .RRCA
  | .STOP => .STOP
  | .LD_DE_d16 d => .LD_rr_d16 .DE d
  | .LD_DEm_A => .LD_DE_A
  | .INC_DE => .INC_rr .DE
  | .INC_D => .INC_s (.reg .D)
  | .DEC_D => .DEC_s (.reg .D)
  | .LD_D_d8 d => .LD_r_d8 .D d
  | .RLA => .RLA
  | .JR_e8 e => .JR_e8 e
  | .ADD_HL_DE => .ADD_HL_rr .DE
  | .LD_A_DEm => .LD_A_DE
  | .DEC_DE => .DEC_rr .DE
  | .INC_E => .INC_s (.reg .E)
  | .DEC_E => .DEC_s (.reg .E)
  | .LD_E_d8 d => .LD_r_d8 .E d
  | .RRA => .RRA
  | .JR_NZ_e8 e => .JR_cc_e8 .NZ e
  | .LD_HL_d16 d => .LD_rr_d16 .HL d
  | .LDI_HLm_A => .LDI_HL_A
  | .INC_HL => .INC_rr .HL
  | .INC_H => .INC_s (.reg .H)
  | .DEC_H => .DEC_s (.reg .H)
  | .LD_H_d8 d => .LD_r_d8 .H d
  | .DAA => .DAA
  | .JR_Z_e8 e => .JR_cc_e8 .Z e
  | .ADD_HL_HL => .ADD_HL_rr .HL
  | .LDI_A_HLm => .LDI_A_HL
  | .DEC_HL => .DEC_rr .HL
  | .INC_L => .INC_s (.reg .L)
  | .DEC_L => .DEC_s (.reg .L)
  | .LD_L_d8 d => .LD_r_d8 .L d
  | .CPL => .CPL
  | .JR_NC_e8 e => .JR_cc_e8 .NC e
  | .LD_SP_d16 d => .LD_rr_d16 .SP d
  | .LDD_HLm_A => .LDD_HL_A
  | .INC_SP => .INC_rr .SP
  | .INC_HLm => .INC_s .HLm
  | .DEC_HLm => .DEC_s .HLm
  | .LD_HLm_d8 d => .LD_HLm_d8 d
  | .SCF => .SCF
  | .JR_C_e8 e => .JR_cc_e8 .C e
  | .ADD_HL_SP => .ADD_HL_rr .SP
  | .LDD_A_HLm => .LDD_A_HL
  | .DEC_SP => .DEC_rr .SP
  | .INC_A => .INC_s (.reg .A)
  | .DEC_A => .DEC_s (.reg .A)
  | .LD_A_d8 d => .LD_r_d8 .A d
  | .CCF => .CCF
  | .LD_B_B => .LD_r_r .B .B
  | .LD_B_C => .LD_r_r .B .C
  | .LD_B_D => .LD_r_r .B .D
  | .LD_B_E => .LD_r_r .B .E
  | .LD_B_H => .LD_r_r .B .H
  | .LD_B_L => .LD_r_r .B .L
  | .LD_B_HLm => .LD_r_HLm .B
  | .LD_B_A => .LD_r_r .B .A
  | .LD_C_B => .LD_r_r .C .B
  | .LD_C_C => .LD_r_r .C .C
  | .LD_C_D => .LD_r_r .C .D
  | .LD_C_E => .LD_r_r .C .E
  | .LD_C_H => .LD_r_r .C .H
  | .LD_C_L => .LD_r_r .C .L
  | .LD_C_HLm => .LD_r_HLm .C
  | .LD_C_A => .LD_r_r .C .A
  | .LD_D_B => .LD_r_r .D .B
  | .LD_D_C => .LD_r_r .D .C
  | .LD_D_D => .LD_r_r .D .D
  | .LD_D_E => .LD_r_r .D .E
  | .LD_D_H => .LD_r_r .D .H
  | .LD_D_L => .LD_r_r .D .L
  | .LD_D_HLm => .LD_r_HLm .D
  | .LD_D_A => .LD_r_r .D .A
  | .LD_E_B => .LD_r_r .E .B
  | .LD_E_C => .LD_r_r .E .C
  | .LD_E_D => .LD_r_r .E .D
  | .LD_E_E => .LD_r_r .E .E
  | .LD_E_H => .LD_r_r .E .H
  | .LD_E_L => .LD_r_r .E .L
  | .LD_E_HLm => .LD_r_HLm .E
  | .LD_E_A => .LD_r_r .E .A
  | .LD_H_B => .LD_r_r .H .B
  | .LD_H_C => .LD_r_r .H .C
  | .LD_H_D => .LD_r_r .H .D
  | .LD_H_E => .LD_r_r .H .E
  | .LD_H_H => .LD_r_r .H .H
  | .LD_H_L => .LD_r_r .H .L
  | .LD_H_HLm => .LD_r_HLm .H
  | .LD_H_A => .LD_r_r .H .A
  | .LD_L_B => .LD_r_r .L .B
  | .LD_L_C => .LD_r_r .L .C
  | .LD_L_D => .LD_r_r .L .D
  | .LD_L_E => .LD_r_r .L .E
  | .LD_L_H => .LD_r_r .L .H
  | .LD_L_L => .LD_r_r .L .L
  | .LD_L_HLm => .LD_r_HLm .L
  | .LD_L_A => .LD_r_r .L .A
  | .LD_HLm_B => .LD_HLm_r .B
  | .LD_HLm_C => .LD_HLm_r .C
  | .LD_HLm_D => .LD_HLm_r .D
  | .LD_HLm_E => .LD_HLm_r .E
  | .LD_HLm_H => .LD_HLm_r .H
  | .LD_HLm_L => .LD_HLm_r .L
  | .HALT => .HALT
  | .LD_HLm_A => .LD_HLm_r .A
  | .LD_A_B => .LD_r_r .A .B
  | .LD_A_C => .LD_r_r .A .C
  | .LD_A_D => .LD_r_r .A .D
  | .LD_A_E => .LD_r_r .A .E
  | .LD_A_H => .LD_r_r .A .H
  | .LD_A_L => .LD_r_r .A .L
  | .LD_A_HLm => .LD_r_HLm .A
  | .LD_A_A => .LD_r_r .A .A
  | .ADD_A_B => .ALU_s .ADD (.reg .B)
  | .ADD_A_C => .ALU_s .ADD (.reg .C)
  | .ADD_A_D => .ALU_s .ADD (.reg .D)
  | .ADD_A_E => .ALU_s .ADD (.reg .E)
  | .ADD_A_H => .ALU_s .ADD (.reg .H)
  | .ADD_A_L => .ALU_s .ADD (.reg .L)
  | .ADD_A_HLm => .ALU_s .ADD .HLm
  | .ADD_A_A => .ALU_s .ADD (.reg .A)
  | .ADC_A_B => .ALU_s .ADC (.reg .B)
  | .ADC_A_C => .ALU_s .ADC (.reg .C)
  | .ADC_A_D => .ALU_s .ADC (.reg .D)
  | .ADC_A_E => .ALU_s .ADC (.reg .E)
  | .ADC_A_H => .ALU_s .ADC (.reg .H)
  | .ADC_A_L => .ALU_s .ADC (.reg .L)
  | .ADC_A_HLm => .ALU_s .ADC .HLm
  | .ADC_A_A => .ALU_s .ADC (.reg .A)
  | .SUB_B => .ALU_s .SUB (.reg .B)
  | .SUB_C => .ALU_s .SUB (.reg .C)
  | .SUB_D => .ALU_s .SUB (.reg .D)
  | .SUB_E => .ALU_s .SUB (.reg .E)
  | .SUB_H => .ALU_s .SUB (.reg .H)
  | .SUB_L => .ALU_s .SUB (.reg .L)
  | .SUB_HLm => .ALU_s .SUB .HLm
  | .SUB_A => .ALU_s .SUB (.reg .A)
  | .SBC_A_B => .ALU_s .SBC (.reg .B)
  | .SBC_A_C => .ALU_s .SBC (.reg .C)
  | .SBC_A_D => .ALU_s .SBC (.reg .D)
  | .SBC_A_E => .ALU_s .SBC (.reg .E)
  | .SBC_A_H => .ALU_s .SBC (.reg .H)
  | .SBC_A_L => .ALU_s .SBC (.reg .L)
  | .SBC_A_HLm => .ALU_s .SBC .HLm
  | .SBC_A_A => .ALU_s .SBC (.reg .A)
  | .AND_B => .ALU_s .AND (.reg .B)
  | .AND_C => .ALU_s .AND (.reg .C)
  | .AND_D => .ALU_s .AND (.reg .D)
  | .AND_E => .ALU_s .AND (.reg .E)
  | .AND_H => .ALU_s .AND (.reg .H)
  | .AND_L => .ALU_s .AND (.reg .L)
  | .AND_HLm => .ALU_s .AND .HLm
  | .AND_A => .ALU_s .AND (.reg .A)
  | .XOR_B => .ALU_s .XOR (.reg .B)
  | .XOR_C => .ALU_s .XOR (.reg .C)
  | .XOR_D => .ALU_s .XOR (.reg .D)
  | .XOR_E => .ALU_s .XOR (.reg .E)
  | .XOR_H => .ALU_s .XOR (.reg .H)
  | .XOR_L => .ALU_s .XOR (.reg .L)
  | .XOR_HLm => .ALU_s .XOR .HLm
  | .XOR_A => .ALU_s .XOR (.reg .A)
  | .OR_B => .ALU_s .OR (.reg .B)
  | .OR_C => .ALU_s .OR (.reg .C)
  | .OR_D => .ALU_s .OR (.reg .D)
  | .OR_E => .ALU_s .OR (.reg .E)
  | .OR_H => .ALU_s .OR (.reg .H)
  | .OR_L => .ALU_s .OR (.reg .L)
  | .OR_HLm => .ALU_s .OR .HLm
  | .OR_A => .ALU_s .OR (.reg .A)
  | .CP_B => .ALU_s .CP (.reg .B)
  | .CP_C => .ALU_s .CP (.reg .C)
  | .CP_D => .ALU_s .CP (.reg .D)
  | .CP_E => .ALU_s .CP (.reg .E)
  | .CP_H => .ALU_s .CP (.reg .H)
  | .CP_L => .ALU_s .CP (.reg .L)
  | .CP_HLm => .ALU_s .CP .HLm
  | .CP_A => .ALU_s .CP (.reg .A)
  | .RET_NZ => .RET_cc .NZ
  | .POP_BC => .POP_rr .BC
  | .JP_NZ_a16 a => .JP_cc_a16 .NZ a
  | .JP_a16 a => .JP_a16 a
  | .CALL_NZ_a16 a => .CALL_cc_a16 .NZ a
  | .PUSH_BC => .PUSH_rr .BC
  | .ADD_A_d8 d => .ALU_d8 .ADD d
  | .RST_0x00 => .RST 0x00
  | .RET_Z => .RET_cc .Z
  | .RET => .RET
  | .JP_Z_a16 a => .JP_cc_a16 .Z a
  | .CALL_Z_a16 a => .CALL_cc_a16 .Z a
  | .CALL_a16 a => .CALL_a16 a
  | .ADC_A_d8 d => .ALU_d8 .ADC d
  | .RST_0x08 => .RST 0x08
  | .RET_NC => .RET_cc .NC
  | .POP_DE => .POP_rr .DE
  | .JP_NC_a16 a => .JP_cc_a16 .NC a
  | .ILLEGAL_D3 => .ILLEGAL 0xD3
  | .CALL_NC_a16 a => .CALL_cc_a16 .NC a
  | .PUSH_DE => .PUSH_rr .DE
  | .SUB_d8 d => .ALU_d8 .SUB d
  | .RST_0x10 => .RST 0x10
  | .RET_C => .RET_cc .C
  | .RETI => .RETI
  | .JP_C_a16 a => .JP_cc_a16 .C a
  | .ILLEGAL_DB => .ILLEGAL 0xDB
  | .CALL_C_a16 a => .CALL_cc_a16 .C a
  | .ILLEGAL_DD => .ILLEGAL 0xDD
  | .SBC_A_d8 d => .ALU_d8 .SBC d
  | .RST_0x18 => .RST 0x18
  | .LDH_a8m_A o => .LDH_a8_A o
  | .POP_HL => .POP_rr .HL
  | .LDH_Cm_A => .LDH_C_A
  | .ILLEGAL_E3 => .ILLEGAL 0xE3
  | .ILLEGAL_E4 => .ILLEGAL 0xE4
  | .PUSH_HL => .PUSH_rr .HL
  | .AND_d8 d => .ALU_d8 .AND d
  | .RST_0x20 => .RST 0x20
  | .ADD_SP_e8 e => .ADD_SP_e8 e
  | .JP_HLm => .JP_HL
  | .LD_a16m_A a => .LD_a16_A a
  | .ILLEGAL_EB => .ILLEGAL 0xEB
  | .ILLEGAL_EC => .ILLEGAL 0xEC
  | .ILLEGAL_ED => .ILLEGAL 0xED
  | .XOR_d8 d => .ALU_d8 .XOR d
  | .RST_0x28 => .RST 0x28
  | .LDH_A_a8m o => .LDH_A_a8 o
  | .POP_AF => .POP_AF
  | .LDH_A_Cm => .LDH_A_C
  | .DI => .DI
  | .ILLEGAL_F4 => .ILLEGAL 0xF4
  | .PUSH_AF => .PUSH_rr .AF
  | .OR_d8 d => .ALU_d8 .OR d
  | .RST_0x30 => .RST 0x30
  | .LDHL_SP_e8 e => .LDHL_SP_e8 e
  | .LD_SP_HL => .LD_SP_HL
  | .LD_A_a16m a => .LD_A_a16 a
  | .EI => .EI
  | .ILLEGAL_FC => .ILLEGAL 0xFC
  | .ILLEGAL_FD => .ILLEGAL 0xFD
  | .CP_d8 d => .ALU_d8 .CP d
  | .RST_0x38 => .RST 0x38
  | .RLC_B => .ROT_s .RLC (.reg .B)
  | .RLC_C => .ROT_s .RLC (.reg .C)
  | .RLC_D => .ROT_s .RLC (.reg .D)
  | .RLC_E => .ROT_s .RLC (.reg .E)
  | .RLC_H => .ROT_s .RLC (.reg .H)
  | .RLC_L => .ROT_s .RLC (.reg .L)
  | .RLC_HLm => .ROT_s .RLC .HLm
  | .RLC_A => .ROT_s .RLC (.reg .A)
  | .RRC_B => .ROT_s .RRC (.reg .B)
  | .RRC_C => .ROT_s .RRC (.reg .C)
  | .RRC_D => .ROT_s .RRC (.reg .D)
  | .RRC_E => .ROT_s .RRC (.reg .E)
  | .RRC_H => .ROT_s .RRC (.reg .H)
  | .RRC_L => .ROT_s .RRC (.reg .L)
  | .RRC_HLm => .ROT_s .RRC .HLm
  | .RRC_A => .ROT_s .RRC (.reg .A)
  | .RL_B => .ROT_s .RL (.reg .B)
  | .RL_C => .ROT_s .RL (.reg .C)
  | .RL_D => .ROT_s .RL (.reg .D)
  | .RL_E => .ROT_s .RL (.reg .E)
  | .RL_H => .ROT_s .RL (.reg .H)
  | .RL_L => .ROT_s .RL (.reg .L)
  | .RL_HLm => .ROT_s .RL .HLm
  | .RL_A => .ROT_s .RL (.reg .A)
  | .RR_B => .ROT_s .RR (.reg .B)
  | .RR_C => .ROT_s .RR (.reg .C)
  | .RR_D => .ROT_s .RR (.reg .D)
  | .RR_E => .ROT_s .RR (.reg .E)
  | .RR_H => .ROT_s .RR (.reg .H)
  | .RR_L => .ROT_s .RR (.reg .L)
  | .RR_HLm => .ROT_s .RR .HLm
  | .RR_A => .ROT_s .RR (.reg .A)
  | .SLA_B => .ROT_s .SLA (.reg .B)
  | .SLA_C => .ROT_s .SLA (.reg .C)
  | .SLA_D => .ROT_s .SLA (.reg .D)
  | .SLA_E => .ROT_s .SLA (.reg .E)
  | .SLA_H => .ROT_s .SLA (.reg .H)
  | .SLA_L => .ROT_s .SLA (.reg .L)
  | .SLA_HLm => .ROT_s .SLA .HLm
  | .SLA_A => .ROT_s .SLA (.reg .A)
  | .SRA_B => .ROT_s .SRA (.reg .B)
  | .SRA_C => .ROT_s .SRA (.reg .C)
  | .SRA_D => .ROT_s .SRA (.reg .D)
  | .SRA_E => .ROT_s .SRA (.reg .E)
  | .SRA_H => .ROT_s .SRA (.reg .H)
  | .SRA_L => .ROT_s .SRA (.reg .L)
  | .SRA_HLm => .ROT_s .SRA .HLm
  | .SRA_A => .ROT_s .SRA (.reg .A)
  | .SWAP_B => .ROT_s .SWAP (.reg .B)
  | .SWAP_C => .ROT_s .SWAP (.reg .C)
  | .SWAP_D => .ROT_s .SWAP (.reg .D)
  | .SWAP_E => .ROT_s .SWAP (.reg .E)
  | .SWAP_H => .ROT_s .SWAP (.reg .H)
  | .SWAP_L => .ROT_s .SWAP (.reg .L)
  | .SWAP_HLm => .ROT_s .SWAP .HLm
  | .SWAP_A => .ROT_s .SWAP (.reg .A)
  | .SRL_B => .ROT_s .SRL (.reg .B)
  | .SRL_C => .ROT_s .SRL (.reg .C)
  | .SRL_D => .ROT_s .SRL (.reg .D)
  | .SRL_E => .ROT_s .SRL (.reg .E)
  | .SRL_H => .ROT_s .SRL (.reg .H)
  | .SRL_L => .ROT_s .SRL (.reg .L)
  | .SRL_HLm => .ROT_s .SRL .HLm
  | .SRL_A => .ROT_s .SRL (.reg .A)
  | .BIT_0_B => .BIT_b_s 0 (.reg .B)
  | .BIT_0_C => .BIT_b_s 0 (.reg .C)
  | .BIT_0_D => .BIT_b_s 0 (.reg .D)
  | .BIT_0_E => .BIT_b_s 0 (.reg .E)
  | .BIT_0_H => .BIT_b_s 0 (.reg .H)
  | .BIT_0_L => .BIT_b_s 0 (.reg .L)
  | .BIT_0_HLm => .BIT_b_s 0 .HLm
  | .BIT_0_A => .BIT_b_s 0 (.reg .A)
  | .BIT_1_B => .BIT_b_s 1 (.reg .B)
  | .BIT_1_C => .BIT_b_s 1 (.reg .C)
  | .BIT_1_D => .BIT_b_s 1 (.reg .D)
  | .BIT_1_E => .BIT_b_s 1 (.reg .E)
  | .BIT_1_H => .BIT_b_s 1 (.reg .H)
  | .BIT_1_L => .BIT_b_s 1 (.reg .L)
  | .BIT_1_HLm => .BIT_b_s 1 .HLm
  | .BIT_1_A => .BIT_b_s 1 (.reg .A)
  | .BIT_2_B => .BIT_b_s 2 (.reg .B)
  | .BIT_2_C => .BIT_b_s 2 (.reg .C)
  | .BIT_2_D => .BIT_b_s 2 (.reg .D)
  | .BIT_2_E => .BIT_b_s 2 (.reg .E)
  | .BIT_2_H => .BIT_b_s 2 (.reg .H)
  | .BIT_2_L => .BIT_b_s 2 (.reg .L)
  | .BIT_2_HLm => .BIT_b_s 2 .HLm
  | .BIT_2_A => .BIT_b_s 2 (.reg .A)
  | .BIT_3_B => .BIT_b_s 3 (.reg .B)
  | .BIT_3_C => .BIT_b_s 3 (.reg .C)
  | .BIT_3_D => .BIT_b_s 3 (.reg .D)
  | .BIT_3_E => .BIT_b_s 3 (.reg .E)
  | .BIT_3_H => .BIT_b_s 3 (.reg .H)
  | .BIT_3_L => .BIT_b_s 3 (.reg .L)
  | .BIT_3_HLm => .BIT_b_s 3 .HLm
  | .BIT_3_A => .BIT_b_s 3 (.reg .A)
  | .BIT_4_B => .BIT_b_s 4 (.reg .B)
  | .BIT_4_C => .BIT_b_s 4 (.reg .C)
  | .BIT_4_D => .BIT_b_s 4 (.reg .D)
  | .BIT_4_E => .BIT_b_s 4 (.reg .E)
  | .BIT_4_H => .BIT_b_s 4 (.reg .H)
  | .BIT_4_L => .BIT_b_s 4 (.reg .L)
  | .BIT_4_HLm => .BIT_b_s 4 .HLm
  | .BIT_4_A => .BIT_b_s 4 (.reg .A)
  | .BIT_5_B => .BIT_b_s 5 (.reg .B)
  | .BIT_5_C => .BIT_b_s 5 (.reg .C)
  | .BIT_5_D => .BIT_b_s 5 (.reg .D)
  | .BIT_5_E => .BIT_b_s 5 (.reg .E)
  | .BIT_5_H => .BIT_b_s 5 (.reg .H)
  | .BIT_5_L => .BIT_b_s 5 (.reg .L)
  | .BIT_5_HLm => .BIT_b_s 5 .HLm
  | .BIT_5_A => .BIT_b_s 5 (.reg .A)
  | .BIT_6_B => .BIT_b_s 6 (.reg .B)
  | .BIT_6_C => .BIT_b_s 6 (.reg .C)
  | .BIT_6_D => .BIT_b_s 6 (.reg .D)
  | .BIT_6_E => .BIT_b_s 6 (.reg .E)
  | .BIT_6_H => .BIT_b_s 6 (.reg .H)
  | .BIT_6_L => .BIT_b_s 6 (.reg .L)
  | .BIT_6_HLm => .BIT_b_s 6 .HLm
  | .BIT_6_A => .BIT_b_s 6 (.reg .A)
  | .BIT_7_B => .BIT_b_s 7 (.reg .B)
  | .BIT_7_C => .BIT_b_s 7 (.reg .C)
  | .BIT_7_D => .BIT_b_s 7 (.reg .D)
  | .BIT_7_E => .BIT_b_s 7 (.reg .E)
  | .BIT_7_H => .BIT_b_s 7 (.reg .H)
  | .BIT_7_L => .BIT_b_s 7 (.reg .L)
  | .BIT_7_HLm => .BIT_b_s 7 .HLm
  | .BIT_7_A => .BIT_b_s 7 (.reg .A)
  | .RES_0_B => .RES_b_s 0 (.reg .B)
  | .RES_0_C => .RES_b_s 0 (.reg .C)
  | .RES_0_D => .RES_b_s 0 (.reg .D)
  | .RES_0_E => .RES_b_s 0 (.reg .E)
  | .RES_0_H => .RES_b_s 0 (.reg .H)
  | .RES_0_L => .RES_b_s 0 (.reg .L)
  | .RES_0_HLm => .RES_b_s 0 .HLm
  | .RES_0_A => .RES_b_s 0 (.reg .A)
  | .RES_1_B => .RES_b_s 1 (.reg .B)
  | .RES_1_C => .RES_b_s 1 (.reg .C)
  | .RES_1_D => .RES_b_s 1 (.reg .D)
  | .RES_1_E => .RES_b_s 1 (.reg .E)
  | .RES_1_H => .RES_b_s 1 (.reg .H)
  | .RES_1_L => .RES_b_s 1 (.reg .L)
  | .RES_1_HLm => .RES_b_s 1 .HLm
  | .RES_1_A => .RES_b_s 1 (.reg .A)
  | .RES_2_B => .RES_b_s 2 (.reg .B)
  | .RES_2_C => .RES_b_s 2 (.reg .C)
  | .RES_2_D => .RES_b_s 2 (.reg .D)
  | .RES_2_E => .RES_b_s 2 (.reg .E)
  | .RES_2_H => .RES_b_s 2 (.reg .H)
  | .RES_2_L => .RES_b_s 2 (.reg .L)
  | .RES_2_HLm => .RES_b_s 2 .HLm
  | .RES_2_A => .RES_b_s 2 (.reg .A)
  | .RES_3_B => .RES_b_s 3 (.reg .B)
  | .RES_3_C => .RES_b_s 3 (.reg .C)
  | .RES_3_D => .RES_b_s 3 (.reg .D)
  | .RES_3_E => .RES_b_s 3 (.reg .E)
  | .RES_3_H => .RES_b_s 3 (.reg .H)
  | .RES_3_L => .RES_b_s 3 (.reg .L)
  | .RES_3_HLm => .RES_b_s 3 .HLm
  | .RES_3_A => .RES_b_s 3 (.reg .A)
  | .RES_4_B => .RES_b_s 4 (.reg .B)
  | .RES_4_C => .RES_b_s 4 (.reg .C)
  | .RES_4_D => .RES_b_s 4 (.reg .D)
  | .RES_4_E => .RES_b_s 4 (.reg .E)
  | .RES_4_H => .RES_b_s 4 (.reg .H)
  | .RES_4_L => .RES_b_s 4 (.reg .L)
  | .RES_4_HLm => .RES_b_s 4 .HLm
  | .RES_4_A => .RES_b_s 4 (.reg .A)
  | .RES_5_B => .RES_b_s 5 (.reg .B)
  | .RES_5_C => .RES_b_s 5 (.reg .C)
  | .RES_5_D => .RES_b_s 5 (.reg .D)
  | .RES_5_E => .RES_b_s 5 (.reg .E)
  | .RES_5_H => .RES_b_s 5 (.reg .H)
  | .RES_5_L => .RES_b_s 5 (.reg .L)
  | .RES_5_HLm => .RES_b_s 5 .HLm
  | .RES_5_A => .RES_b_s 5 (.reg .A)
  | .RES_6_B => .RES_b_s 6 (.reg .B)
  | .RES_6_C => .RES_b_s 6 (.reg .C)
  | .RES_6_D => .RES_b_s 6 (.reg .D)
  | .RES_6_E => .RES_b_s 6 (.reg .E)
  | .RES_6_H => .RES_b_s 6 (.reg .H)
  | .RES_6_L => .RES_b_s 6 (.reg .L)
  | .RES_6_HLm => .RES_b_s 6 .HLm
  | .RES_6_A => .RES_b_s 6 (.reg .A)
  | .RES_7_B => .RES_b_s 7 (.reg .B)
  | .RES_7_C => .RES_b_s 7 (.reg .C)
  | .RES_7_D => .RES_b_s 7 (.reg .D)
  | .RES_7_E => .RES_b_s 7 (.reg .E)
  | .RES_7_H => .RES_b_s 7 (.reg .H)
  | .RES_7_L => .RES_b_s 7 (.reg .L)
  | .RES_7_HLm => .RES_b_s 7 .HLm
  | .RES_7_A => .RES_b_s 7 (.reg .A)
  | .SET_0_B => .SET_b_s 0 (.reg .B)
  | .SET_0_C => .SET_b_s 0 (.reg .C)
  | .SET_0_D => .SET_b_s 0 (.reg .D)
  | .SET_0_E => .SET_b_s 0 (.reg .E)
  | .SET_0_H => .SET_b_s 0 (.reg .H)
  | .SET_0_L => .SET_b_s 0 (.reg .L)
  | .SET_0_HLm => .SET_b_s 0 .HLm
  | .SET_0_A => .SET_b_s 0 (.reg .A)
  | .SET_1_B => .SET_b_s 1 (.reg .B)
  | .SET_1_C => .SET_b_s 1 (.reg .C)
  | .SET_1_D => .SET_b_s 1 (.reg .D)
  | .SET_1_E => .SET_b_s 1 (.reg .E)
  | .SET_1_H => .SET_b_s 1 (.reg .H)
  | .SET_1_L => .SET_b_s 1 (.reg .L)
  | .SET_1_HLm => .SET_b_s 1 .HLm
  | .SET_1_A => .SET_b_s 1 (.reg .A)
  | .SET_2_B => .SET_b_s 2 (.reg .B)
  | .SET_2_C => .SET_b_s 2 (.reg .C)
  | .SET_2_D => .SET_b_s 2 (.reg .D)
  | .SET_2_E => .SET_b_s 2 (.reg .E)
  | .SET_2_H => .SET_b_s 2 (.reg .H)
  | .SET_2_L => .SET_b_s 2 (.reg .L)
  | .SET_2_HLm => .SET_b_s 2 .HLm
  | .SET_2_A => .SET_b_s 2 (.reg .A)
  | .SET_3_B => .SET_b_s 3 (.reg .B)
  | .SET_3_C => .SET_b_s 3 (.reg .C)
  | .SET_3_D => .SET_b_s 3 (.reg .D)
  | .SET_3_E => .SET_b_s 3 (.reg .E)
  | .SET_3_H => .SET_b_s 3 (.reg .H)
  | .SET_3_L => .SET_b_s 3 (.reg .L)
  | .SET_3_HLm => .SET_b_s 3 .HLm
  | .SET_3_A => .SET_b_s 3 (.reg .A)
  | .SET_4_B => .SET_b_s 4 (.reg .B)
  | .SET_4_C => .SET_b_s 4 (.reg .C)
  | .SET_4_D => .SET_b_s 4 (.reg .D)
  | .SET_4_E => .SET_b_s 4 (.reg .E)
  | .SET_4_H => .SET_b_s 4 (.reg .H)
  | .SET_4_L => .SET_b_s 4 (.reg .L)
  | .SET_4_HLm => .SET_b_s 4 .HLm
  | .SET_4_A => .SET_b_s 4 (.reg .A)
  | .SET_5_B => .SET_b_s 5 (.reg .B)
  | .SET_5_C => .SET_b_s 5 (.reg .C)
  | .SET_5_D => .SET_b_s 5 (.reg .D)
  | .SET_5_E => .SET_b_s 5 (.reg .E)
  | .SET_5_H => .SET_b_s 5 (.reg .H)
  | .SET_5_L => .SET_b_s 5 (.reg .L)
  | .SET_5_HLm => .SET_b_s 5 .HLm
  | .SET_5_A => .SET_b_s 5 (.reg .A)
  | .SET_6_B => .SET_b_s 6 (.reg .B)
  | .SET_6_C => .SET_b_s 6 (.reg .C)
  | .SET_6_D => .SET_b_s 6 (.reg .D)
  | .SET_6_E => .SET_b_s 6 (.reg .E)
  | .SET_6_H => .SET_b_s 6 (.reg .H)
  | .SET_6_L => .SET_b_s 6 (.reg .L)
  | .SET_6_HLm => .SET_b_s 6 .HLm
  | .SET_6_A => .SET_b_s 6 (.reg .A)
  | .SET_7_B => .SET_b_s 7 (.reg .B)
  | .SET_7_C => .SET_b_s 7 (.reg .C)
  | .SET_7_D => .SET_b_s 7 (.reg .D)
  | .SET_7_E => .SET_b_s 7 (.reg .E)
  | .SET_7_H => .SET_b_s 7 (.reg .H)
  | .SET_7_L => .SET_b_s 7 (.reg .L)
  | .SET_7_HLm => .SET_b_s 7 .HLm
  | .SET_7_A => .SET_b_s 7 (.reg .A)

/-! ## Lengths (R60, R73) -/

/-- `STOP_LENGTH` in bytes. -/
def StopLength.bytes : StopLength → Nat
  | .one => 1
  | .two => 2

/-- `size(I)`, "a pure function of the variant tag" (R73, the `len` column of R74). -/
def Variant.size (p : Params) : Variant → Nat
  | .STOP => p.stopLength.bytes
  | .LD_r_d8 _ _ | .LD_HLm_d8 _ | .LDH_A_a8 _ | .LDH_a8_A _ | .LDHL_SP_e8 _ | .ALU_d8 _ _ | .ADD_SP_e8 _ | .JR_e8 _
  | .JR_cc_e8 _ _ => 2
  | .ROT_s _ _ | .BIT_b_s _ _ | .RES_b_s _ _ | .SET_b_s _ _ => 2
  | .LD_A_a16 _ | .LD_a16_A _ | .LD_rr_d16 _ _ | .LD_a16_SP _ | .JP_a16 _ | .JP_cc_a16 _ _ | .CALL_a16 _ | .CALL_cc_a16 _ _ => 3
  | .LD_r_r _ _ | .LD_r_HLm _ | .LD_HLm_r _ | .LD_A_BC | .LD_A_DE | .LD_BC_A | .LD_DE_A | .LDH_A_C | .LDH_C_A | .LDI_A_HL
  | .LDI_HL_A | .LDD_A_HL | .LDD_HL_A | .LD_SP_HL | .PUSH_rr _ | .POP_rr _ | .POP_AF | .ALU_s _ _ | .INC_s _ | .DEC_s _ | .DAA
  | .CPL | .SCF | .CCF | .ADD_HL_rr _ | .INC_rr _ | .DEC_rr _ | .RLCA | .RLA | .RRCA | .RRA | .JP_HL | .RET | .RET_cc _ | .RETI
  | .RST _ | .NOP | .HALT | .DI | .EI | .ILLEGAL _ => 1

/-- The length in bytes of an instruction under the parameters `p` (R73). -/
def Instr.size (p : Params) (i : Instr) : Nat := i.variant.size p

/-- How many bytes the encoding itself has: with `STOP_LENGTH = 2` the byte after 0x10 is skipped and not examined (R221), so it is no
part of the encoding (notes/assumptions/8.md). -/
def Instr.encodedLength (i : Instr) : Nat := i.size Params.default

/-! ## The two tables (R70, R71) -/

/-- A table entry: the instruction made from bytes 1 and 2 (R61). -/
abbrev Entry := Byte → Byte → Instr

/-- Format `OP`: no operand byte. -/
def entry (i : Instr) : Entry := fun _ _ => i

/-- Format `OP_D8`: byte 1 is the operand (R69). -/
def entryD8 (k : Byte → Instr) : Entry := fun b1 _ => k b1

/-- Format `OP_D16`: the operand is `{b2, b1}` (R69). -/
def entryD16 (k : Word → Instr) : Entry := fun b1 b2 => k (cat b2 b1)

/-! The CB table (R71), row by row. -/

def cbRow0 : Vector Instr 16 :=
  #v[.RLC_B, .RLC_C, .RLC_D, .RLC_E, .RLC_H, .RLC_L, .RLC_HLm, .RLC_A, .RRC_B, .RRC_C, .RRC_D, .RRC_E, .RRC_H, .RRC_L, .RRC_HLm, .RRC_A]

def cbRow1 : Vector Instr 16 :=
  #v[.RL_B, .RL_C, .RL_D, .RL_E, .RL_H, .RL_L, .RL_HLm, .RL_A, .RR_B, .RR_C, .RR_D, .RR_E, .RR_H, .RR_L, .RR_HLm, .RR_A]

def cbRow2 : Vector Instr 16 :=
  #v[.SLA_B, .SLA_C, .SLA_D, .SLA_E, .SLA_H, .SLA_L, .SLA_HLm, .SLA_A, .SRA_B, .SRA_C, .SRA_D, .SRA_E, .SRA_H, .SRA_L, .SRA_HLm, .SRA_A]

def cbRow3 : Vector Instr 16 :=
  #v[.SWAP_B, .SWAP_C, .SWAP_D, .SWAP_E, .SWAP_H, .SWAP_L, .SWAP_HLm, .SWAP_A, .SRL_B, .SRL_C, .SRL_D, .SRL_E, .SRL_H, .SRL_L, .SRL_HLm,
     .SRL_A]

def cbRow4 : Vector Instr 16 :=
  #v[.BIT_0_B, .BIT_0_C, .BIT_0_D, .BIT_0_E, .BIT_0_H, .BIT_0_L, .BIT_0_HLm, .BIT_0_A, .BIT_1_B, .BIT_1_C, .BIT_1_D, .BIT_1_E, .BIT_1_H,
     .BIT_1_L, .BIT_1_HLm, .BIT_1_A]

def cbRow5 : Vector Instr 16 :=
  #v[.BIT_2_B, .BIT_2_C, .BIT_2_D, .BIT_2_E, .BIT_2_H, .BIT_2_L, .BIT_2_HLm, .BIT_2_A, .BIT_3_B, .BIT_3_C, .BIT_3_D, .BIT_3_E, .BIT_3_H,
     .BIT_3_L, .BIT_3_HLm, .BIT_3_A]

def cbRow6 : Vector Instr 16 :=
  #v[.BIT_4_B, .BIT_4_C, .BIT_4_D, .BIT_4_E, .BIT_4_H, .BIT_4_L, .BIT_4_HLm, .BIT_4_A, .BIT_5_B, .BIT_5_C, .BIT_5_D, .BIT_5_E, .BIT_5_H,
     .BIT_5_L, .BIT_5_HLm, .BIT_5_A]

def cbRow7 : Vector Instr 16 :=
  #v[.BIT_6_B, .BIT_6_C, .BIT_6_D, .BIT_6_E, .BIT_6_H, .BIT_6_L, .BIT_6_HLm, .BIT_6_A, .BIT_7_B, .BIT_7_C, .BIT_7_D, .BIT_7_E, .BIT_7_H,
     .BIT_7_L, .BIT_7_HLm, .BIT_7_A]

def cbRow8 : Vector Instr 16 :=
  #v[.RES_0_B, .RES_0_C, .RES_0_D, .RES_0_E, .RES_0_H, .RES_0_L, .RES_0_HLm, .RES_0_A, .RES_1_B, .RES_1_C, .RES_1_D, .RES_1_E, .RES_1_H,
     .RES_1_L, .RES_1_HLm, .RES_1_A]

def cbRow9 : Vector Instr 16 :=
  #v[.RES_2_B, .RES_2_C, .RES_2_D, .RES_2_E, .RES_2_H, .RES_2_L, .RES_2_HLm, .RES_2_A, .RES_3_B, .RES_3_C, .RES_3_D, .RES_3_E, .RES_3_H,
     .RES_3_L, .RES_3_HLm, .RES_3_A]

def cbRowA : Vector Instr 16 :=
  #v[.RES_4_B, .RES_4_C, .RES_4_D, .RES_4_E, .RES_4_H, .RES_4_L, .RES_4_HLm, .RES_4_A, .RES_5_B, .RES_5_C, .RES_5_D, .RES_5_E, .RES_5_H,
     .RES_5_L, .RES_5_HLm, .RES_5_A]

def cbRowB : Vector Instr 16 :=
  #v[.RES_6_B, .RES_6_C, .RES_6_D, .RES_6_E, .RES_6_H, .RES_6_L, .RES_6_HLm, .RES_6_A, .RES_7_B, .RES_7_C, .RES_7_D, .RES_7_E, .RES_7_H,
     .RES_7_L, .RES_7_HLm, .RES_7_A]

def cbRowC : Vector Instr 16 :=
  #v[.SET_0_B, .SET_0_C, .SET_0_D, .SET_0_E, .SET_0_H, .SET_0_L, .SET_0_HLm, .SET_0_A, .SET_1_B, .SET_1_C, .SET_1_D, .SET_1_E, .SET_1_H,
     .SET_1_L, .SET_1_HLm, .SET_1_A]

def cbRowD : Vector Instr 16 :=
  #v[.SET_2_B, .SET_2_C, .SET_2_D, .SET_2_E, .SET_2_H, .SET_2_L, .SET_2_HLm, .SET_2_A, .SET_3_B, .SET_3_C, .SET_3_D, .SET_3_E, .SET_3_H,
     .SET_3_L, .SET_3_HLm, .SET_3_A]

def cbRowE : Vector Instr 16 :=
  #v[.SET_4_B, .SET_4_C, .SET_4_D, .SET_4_E, .SET_4_H, .SET_4_L, .SET_4_HLm, .SET_4_A, .SET_5_B, .SET_5_C, .SET_5_D, .SET_5_E, .SET_5_H,
     .SET_5_L, .SET_5_HLm, .SET_5_A]

def cbRowF : Vector Instr 16 :=
  #v[.SET_6_B, .SET_6_C, .SET_6_D, .SET_6_E, .SET_6_H, .SET_6_L, .SET_6_HLm, .SET_6_A, .SET_7_B, .SET_7_C, .SET_7_D, .SET_7_E, .SET_7_H,
     .SET_7_L, .SET_7_HLm, .SET_7_A]

/-- The second table: "256 instructions" selected by the byte after 0xCB (R71). -/
def cbTable : Vector (Vector Instr 16) 16 :=
  #v[cbRow0, cbRow1, cbRow2, cbRow3, cbRow4, cbRow5, cbRow6, cbRow7, cbRow8, cbRow9, cbRowA, cbRowB, cbRowC, cbRowD, cbRowE, cbRowF]

/-- The entry of a byte in a table: its row is the byte's high nibble, its column the low nibble. -/
def lookup {α : Type} (table : Vector (Vector α 16) 16) (b : Byte) : α :=
  (table[b.toNat / 16]'(by have := b.isLt; omega))[b.toNat % 16]'(by omega)

/-- `CBTable[b1]` (R61). -/
def decodeCB (b1 : Byte) : Instr := lookup cbTable b1

/-- PREFIX CB: the entry of 0xCB in the primary table takes byte 1 as the sub-opcode (R61, R226). -/
def entryCB : Entry := fun b1 _ => decodeCB b1

/-! The primary table (R70), row by row. -/

def primaryRow0 : Vector Entry 16 :=
  #v[entry .NOP, entryD16 .LD_BC_d16, entry .LD_BCm_A, entry .INC_BC, entry .INC_B, entry .DEC_B, entryD8 .LD_B_d8, entry .RLCA,
     entryD16 .LD_a16m_SP, entry .ADD_HL_BC, entry .LD_A_BCm, entry .DEC_BC, entry .INC_C, entry .DEC_C, entryD8 .LD_C_d8, entry .RRCA]

def primaryRow1 : Vector Entry 16 :=
  #v[entry .STOP, entryD16 .LD_DE_d16, entry .LD_DEm_A, entry .INC_DE, entry .INC_D, entry .DEC_D, entryD8 .LD_D_d8, entry .RLA,
     entryD8 .JR_e8, entry .ADD_HL_DE, entry .LD_A_DEm, entry .DEC_DE, entry .INC_E, entry .DEC_E, entryD8 .LD_E_d8, entry .RRA]

def primaryRow2 : Vector Entry 16 :=
  #v[entryD8 .JR_NZ_e8, entryD16 .LD_HL_d16, entry .LDI_HLm_A, entry .INC_HL, entry .INC_H, entry .DEC_H, entryD8 .LD_H_d8, entry .DAA,
     entryD8 .JR_Z_e8, entry .ADD_HL_HL, entry .LDI_A_HLm, entry .DEC_HL, entry .INC_L, entry .DEC_L, entryD8 .LD_L_d8, entry .CPL]

def primaryRow3 : Vector Entry 16 :=
  #v[entryD8 .JR_NC_e8, entryD16 .LD_SP_d16, entry .LDD_HLm_A, entry .INC_SP, entry .INC_HLm, entry .DEC_HLm, entryD8 .LD_HLm_d8,
     entry .SCF, entryD8 .JR_C_e8, entry .ADD_HL_SP, entry .LDD_A_HLm, entry .DEC_SP, entry .INC_A, entry .DEC_A, entryD8 .LD_A_d8,
     entry .CCF]

def primaryRow4 : Vector Entry 16 :=
  #v[entry .LD_B_B, entry .LD_B_C, entry .LD_B_D, entry .LD_B_E, entry .LD_B_H, entry .LD_B_L, entry .LD_B_HLm, entry .LD_B_A,
     entry .LD_C_B, entry .LD_C_C, entry .LD_C_D, entry .LD_C_E, entry .LD_C_H, entry .LD_C_L, entry .LD_C_HLm, entry .LD_C_A]

def primaryRow5 : Vector Entry 16 :=
  #v[entry .LD_D_B, entry .LD_D_C, entry .LD_D_D, entry .LD_D_E, entry .LD_D_H, entry .LD_D_L, entry .LD_D_HLm, entry .LD_D_A,
     entry .LD_E_B, entry .LD_E_C, entry .LD_E_D, entry .LD_E_E, entry .LD_E_H, entry .LD_E_L, entry .LD_E_HLm, entry .LD_E_A]

def primaryRow6 : Vector Entry 16 :=
  #v[entry .LD_H_B, entry .LD_H_C, entry .LD_H_D, entry .LD_H_E, entry .LD_H_H, entry .LD_H_L, entry .LD_H_HLm, entry .LD_H_A,
     entry .LD_L_B, entry .LD_L_C, entry .LD_L_D, entry .LD_L_E, entry .LD_L_H, entry .LD_L_L, entry .LD_L_HLm, entry .LD_L_A]

def primaryRow7 : Vector Entry 16 :=
  #v[entry .LD_HLm_B, entry .LD_HLm_C, entry .LD_HLm_D, entry .LD_HLm_E, entry .LD_HLm_H, entry .LD_HLm_L, entry .HALT, entry .LD_HLm_A,
     entry .LD_A_B, entry .LD_A_C, entry .LD_A_D, entry .LD_A_E, entry .LD_A_H, entry .LD_A_L, entry .LD_A_HLm, entry .LD_A_A]

def primaryRow8 : Vector Entry 16 :=
  #v[entry .ADD_A_B, entry .ADD_A_C, entry .ADD_A_D, entry .ADD_A_E, entry .ADD_A_H, entry .ADD_A_L, entry .ADD_A_HLm, entry .ADD_A_A,
     entry .ADC_A_B, entry .ADC_A_C, entry .ADC_A_D, entry .ADC_A_E, entry .ADC_A_H, entry .ADC_A_L, entry .ADC_A_HLm, entry .ADC_A_A]

def primaryRow9 : Vector Entry 16 :=
  #v[entry .SUB_B, entry .SUB_C, entry .SUB_D, entry .SUB_E, entry .SUB_H, entry .SUB_L, entry .SUB_HLm, entry .SUB_A, entry .SBC_A_B,
     entry .SBC_A_C, entry .SBC_A_D, entry .SBC_A_E, entry .SBC_A_H, entry .SBC_A_L, entry .SBC_A_HLm, entry .SBC_A_A]

def primaryRowA : Vector Entry 16 :=
  #v[entry .AND_B, entry .AND_C, entry .AND_D, entry .AND_E, entry .AND_H, entry .AND_L, entry .AND_HLm, entry .AND_A, entry .XOR_B,
     entry .XOR_C, entry .XOR_D, entry .XOR_E, entry .XOR_H, entry .XOR_L, entry .XOR_HLm, entry .XOR_A]

def primaryRowB : Vector Entry 16 :=
  #v[entry .OR_B, entry .OR_C, entry .OR_D, entry .OR_E, entry .OR_H, entry .OR_L, entry .OR_HLm, entry .OR_A, entry .CP_B, entry .CP_C,
     entry .CP_D, entry .CP_E, entry .CP_H, entry .CP_L, entry .CP_HLm, entry .CP_A]

def primaryRowC : Vector Entry 16 :=
  #v[entry .RET_NZ, entry .POP_BC, entryD16 .JP_NZ_a16, entryD16 .JP_a16, entryD16 .CALL_NZ_a16, entry .PUSH_BC, entryD8 .ADD_A_d8,
     entry .RST_0x00, entry .RET_Z, entry .RET, entryD16 .JP_Z_a16, entryCB, entryD16 .CALL_Z_a16, entryD16 .CALL_a16, entryD8 .ADC_A_d8,
     entry .RST_0x08]

def primaryRowD : Vector Entry 16 :=
  #v[entry .RET_NC, entry .POP_DE, entryD16 .JP_NC_a16, entry .ILLEGAL_D3, entryD16 .CALL_NC_a16, entry .PUSH_DE, entryD8 .SUB_d8,
     entry .RST_0x10, entry .RET_C, entry .RETI, entryD16 .JP_C_a16, entry .ILLEGAL_DB, entryD16 .CALL_C_a16, entry .ILLEGAL_DD,
     entryD8 .SBC_A_d8, entry .RST_0x18]

def primaryRowE : Vector Entry 16 :=
  #v[entryD8 .LDH_a8m_A, entry .POP_HL, entry .LDH_Cm_A, entry .ILLEGAL_E3, entry .ILLEGAL_E4, entry .PUSH_HL, entryD8 .AND_d8,
     entry .RST_0x20, entryD8 .ADD_SP_e8, entry .JP_HLm, entryD16 .LD_a16m_A, entry .ILLEGAL_EB, entry .ILLEGAL_EC, entry .ILLEGAL_ED,
     entryD8 .XOR_d8, entry .RST_0x28]

def primaryRowF : Vector Entry 16 :=
  #v[entryD8 .LDH_A_a8m, entry .POP_AF, entry .LDH_A_Cm, entry .DI, entry .ILLEGAL_F4, entry .PUSH_AF, entryD8 .OR_d8, entry .RST_0x30,
     entryD8 .LDHL_SP_e8, entry .LD_SP_HL, entryD16 .LD_A_a16m, entry .EI, entry .ILLEGAL_FC, entry .ILLEGAL_FD, entryD8 .CP_d8,
     entry .RST_0x38]

/-- The "flat 256-entry primary table" (R61, R70). -/
def primaryTable : Vector (Vector Entry 16) 16 :=
  #v[primaryRow0, primaryRow1, primaryRow2, primaryRow3, primaryRow4, primaryRow5, primaryRow6, primaryRow7, primaryRow8, primaryRow9,
    primaryRowA, primaryRowB, primaryRowC, primaryRowD, primaryRowE, primaryRowF]

/-- `decode` of the three bytes at an address: a total function (R61). -/
def decode (b0 b1 b2 : Byte) : Instr := lookup primaryTable b0 b1 b2

/-- Why a list of bytes holds no instruction. On the bus there is always a next byte (R62), so only a list that ends can be refused. -/
inductive DecodeError where
  | noBytes
  | truncated
  deriving DecidableEq, Repr

/-- Decode the front of a list of bytes: the instruction and the bytes after it. -/
def decodeBytes : List Byte → Except DecodeError (Instr × List Byte)
  | [] => .error .noBytes
  | b0 :: rest =>
    let i := decode b0 (rest.getD 0 0) (rest.getD 1 0)
    if rest.length + 1 < i.encodedLength then .error .truncated else .ok (i, rest.drop (i.encodedLength - 1))

/-! ## The encoder -/

/-- Codes of table `r` (R64); F has none. -/
def Reg8.code? : Reg8 → Option (BitVec 3)
  | .B => some 0
  | .C => some 1
  | .D => some 2
  | .E => some 3
  | .H => some 4
  | .L => some 5
  | .A => some 7
  | .F => none

/-- Codes of table `r` (R64), code 6 being the memory byte at HL. -/
def Loc8.code? : Loc8 → Option (BitVec 3)
  | .reg r => r.code?
  | .HLm => some 6

/-- Codes of table `rp` (R65). -/
def Reg16.rpCode? : Reg16 → Option (BitVec 2)
  | .BC => some 0
  | .DE => some 1
  | .HL => some 2
  | .SP => some 3
  | .AF | .PC => none

/-- Codes of table `rp2` (R65). -/
def Reg16.rp2Code? : Reg16 → Option (BitVec 2)
  | .BC => some 0
  | .DE => some 1
  | .HL => some 2
  | .AF => some 3
  | .SP | .PC => none

/-- Codes of table `cc` (R66). -/
def Cond.code : Cond → BitVec 2
  | .NZ => 0
  | .Z => 1
  | .NC => 2
  | .C => 3

/-- Codes of table `alu` (R67). -/
def AluOp.code : AluOp → BitVec 3
  | .ADD => 0
  | .ADC => 1
  | .SUB => 2
  | .SBC => 3
  | .AND => 4
  | .XOR => 5
  | .OR => 6
  | .CP => 7

/-- Codes of table `rot` (R68). -/
def RotOp.code : RotOp → BitVec 3
  | .RLC => 0
  | .RRC => 1
  | .RL => 2
  | .RR => 3
  | .SLA => 4
  | .SRA => 5
  | .SWAP => 6
  | .SRL => 7

/-- `0bxx yyy zzz` (R63). -/
def byteXYZ (x : BitVec 2) (y z : BitVec 3) : Byte := x ++ y ++ z

/-- `0bxx pp q zzz` (R63). -/
def byteXPQZ (x p : BitVec 2) (q : BitVec 1) (z : BitVec 3) : Byte := x ++ p ++ q ++ z

/-- `0b001 cc zzz` and `0b110 cc zzz`: a condition in bits 4 and 3 (R202, R205, R207, R209). -/
def byteCC (x : BitVec 3) (cc : Cond) (z : BitVec 3) : Byte := x ++ cc.code ++ z

/-- The bytes of a variant, from the "Encoding" line of its rule; none for operands that have no code. -/
def Variant.encode? : Variant → Option (List Byte)
  | .LD_r_r rd rs => do some [byteXYZ 0b01 (← rd.code?) (← rs.code?)]
  | .LD_r_d8 r d => do some [byteXYZ 0b00 (← r.code?) 0b110, d]
  | .LD_r_HLm r => do some [byteXYZ 0b01 (← r.code?) 0b110]
  | .LD_HLm_r r => do some [byteXYZ 0b01 0b110 (← r.code?)]
  | .LD_HLm_d8 d => some [0x36, d]
  | .LD_A_BC => some [0x0A]
  | .LD_A_DE => some [0x1A]
  | .LD_BC_A => some [0x02]
  | .LD_DE_A => some [0x12]
  | .LD_A_a16 a => some [0xFA, lo8 a, hi8 a]
  | .LD_a16_A a => some [0xEA, lo8 a, hi8 a]
  | .LDH_A_C => some [0xF2]
  | .LDH_C_A => some [0xE2]
  | .LDH_A_a8 o => some [0xF0, o]
  | .LDH_a8_A o => some [0xE0, o]
  | .LDI_A_HL => some [0x2A]
  | .LDI_HL_A => some [0x22]
  | .LDD_A_HL => some [0x3A]
  | .LDD_HL_A => some [0x32]
  | .LD_rr_d16 rr d => do some [byteXPQZ 0b00 (← rr.rpCode?) 0 0b001, lo8 d, hi8 d]
  | .LD_a16_SP a => some [0x08, lo8 a, hi8 a]
  | .LD_SP_HL => some [0xF9]
  | .LDHL_SP_e8 e => some [0xF8, e]
  | .PUSH_rr rr => do some [byteXPQZ 0b11 (← rr.rp2Code?) 0 0b101]
  | .POP_rr rr => if rr = .AF then none else do some [byteXPQZ 0b11 (← rr.rp2Code?) 0 0b001]
  | .POP_AF => some [0xF1]
  | .ALU_s op s => do some [byteXYZ 0b10 op.code (← s.code?)]
  | .ALU_d8 op d => some [byteXYZ 0b11 op.code 0b110, d]
  | .INC_s s => do some [byteXYZ 0b00 (← s.code?) 0b100]
  | .DEC_s s => do some [byteXYZ 0b00 (← s.code?) 0b101]
  | .DAA => some [0x27]
  | .CPL => some [0x2F]
  | .SCF => some [0x37]
  | .CCF => some [0x3F]
  | .ADD_HL_rr rr => do some [byteXPQZ 0b00 (← rr.rpCode?) 1 0b001]
  | .ADD_SP_e8 e => some [0xE8, e]
  | .INC_rr rr => do some [byteXPQZ 0b00 (← rr.rpCode?) 0 0b011]
  | .DEC_rr rr => do some [byteXPQZ 0b00 (← rr.rpCode?) 1 0b011]
  | .RLCA => some [0x07]
  | .RLA => some [0x17]
  | .RRCA => some [0x0F]
  | .RRA => some [0x1F]
  | .ROT_s op s => do some [0xCB, byteXYZ 0b00 op.code (← s.code?)]
  | .BIT_b_s b s => do some [0xCB, byteXYZ 0b01 b (← s.code?)]
  | .RES_b_s b s => do some [0xCB, byteXYZ 0b10 b (← s.code?)]
  | .SET_b_s b s => do some [0xCB, byteXYZ 0b11 b (← s.code?)]
  | .JP_a16 a => some [0xC3, lo8 a, hi8 a]
  | .JP_cc_a16 cc a => some [byteCC 0b110 cc 0b010, lo8 a, hi8 a]
  | .JP_HL => some [0xE9]
  | .JR_e8 e => some [0x18, e]
  | .JR_cc_e8 cc e => some [byteCC 0b001 cc 0b000, e]
  | .CALL_a16 a => some [0xCD, lo8 a, hi8 a]
  | .CALL_cc_a16 cc a => some [byteCC 0b110 cc 0b100, lo8 a, hi8 a]
  | .RET => some [0xC9]
  | .RET_cc cc => some [byteCC 0b110 cc 0b000]
  | .RETI => some [0xD9]
  | .RST t => if t ∈ rstTargets then some [0b11000111 ||| t] else none
  | .NOP => some [0x00]
  | .STOP => some [0x10]
  | .HALT => some [0x76]
  | .DI => some [0xF3]
  | .EI => some [0xFB]
  | .ILLEGAL op => if op ∈ illegalBytes then some [op] else none

/-- The bytes of an instruction. Its variant always has them (`Laws.encode?_isSome`). -/
def encode (i : Instr) : List Byte := i.variant.encode?.getD []

/-! ## The tables by fields (R63, R70, R71) -/

/-- `op[7:6]`. -/
def fieldX (b : Byte) : BitVec 2 := b.extractLsb' 6 2

/-- `op[5:3]`. -/
def fieldY (b : Byte) : BitVec 3 := b.extractLsb' 3 3

/-- `op[2:0]`. -/
def fieldZ (b : Byte) : BitVec 3 := b.extractLsb' 0 3

/-- `op[5:4]`. -/
def fieldP (b : Byte) : BitVec 2 := b.extractLsb' 4 2

/-- `op[3]`. -/
def fieldQ (b : Byte) : BitVec 1 := b.extractLsb' 3 1

/-- `r[code]` (R64). -/
def tableR : List Loc8 := [.reg .B, .reg .C, .reg .D, .reg .E, .reg .H, .reg .L, .HLm, .reg .A]

/-- `rp[code]` (R65). -/
def tableRp : List Reg16 := [.BC, .DE, .HL, .SP]

/-- `rp2[code]` (R65). -/
def tableRp2 : List Reg16 := [.BC, .DE, .HL, .AF]

/-- `cc[code]` (R66). -/
def tableCC : List Cond := [.NZ, .Z, .NC, .C]

/-- `alu[code]` (R67). -/
def tableAlu : List AluOp := [.ADD, .ADC, .SUB, .SBC, .AND, .XOR, .OR, .CP]

/-- `rot[code]` (R68). -/
def tableRot : List RotOp := [.RLC, .RRC, .RL, .RR, .SLA, .SRA, .SWAP, .SRL]

/-- `LD r[y],r[z]` (R70, x = 1): the exception y = 6, z = 6 is HALT. -/
def ldVariant : Loc8 → Loc8 → Variant
  | .reg rd, .reg rs => .LD_r_r rd rs
  | .reg rd, .HLm => .LD_r_HLm rd
  | .HLm, .reg rs => .LD_HLm_r rs
  | .HLm, .HLm => .HALT

/-- `LD r[y],d8` (R70, x = 0, z = 6). -/
def ldImmVariant : Loc8 → Byte → Variant
  | .reg r, d => .LD_r_d8 r d
  | .HLm, d => .LD_HLm_d8 d

/-- The CB table by fields (R71). -/
def decodeFieldsCB (b1 : Byte) : Variant :=
  let r := tableR.getD (fieldZ b1).toNat .HLm
  match (fieldX b1).toNat with
  | 0 => .ROT_s (tableRot.getD (fieldY b1).toNat .RLC) r
  | 1 => .BIT_b_s (fieldY b1) r
  | 2 => .RES_b_s (fieldY b1) r
  | _ => .SET_b_s (fieldY b1) r

/-- The primary table by fields, line by line as R70 lists them. -/
def decodeFields (b0 b1 b2 : Byte) : Variant :=
  let y := (fieldY b0).toNat
  let p := (fieldP b0).toNat
  let q := (fieldQ b0).toNat
  let ry := tableR.getD y .HLm
  let rz := tableR.getD (fieldZ b0).toNat .HLm
  let rp := tableRp.getD p .SP
  let rp2 := tableRp2.getD p .AF
  let w := cat b2 b1
  match (fieldX b0).toNat, (fieldZ b0).toNat with
  | 0, 0 =>
    match y with
    | 0 => .NOP
    | 1 => .LD_a16_SP w
    | 2 => .STOP
    | 3 => .JR_e8 b1
    | _ => .JR_cc_e8 (tableCC.getD (y - 4) .C) b1
  | 0, 1 => if q = 0 then .LD_rr_d16 rp w else .ADD_HL_rr rp
  | 0, 2 =>
    if q = 0 then [Variant.LD_BC_A, .LD_DE_A, .LDI_HL_A, .LDD_HL_A].getD p .NOP
    else [Variant.LD_A_BC, .LD_A_DE, .LDI_A_HL, .LDD_A_HL].getD p .NOP
  | 0, 3 => if q = 0 then .INC_rr rp else .DEC_rr rp
  | 0, 4 => .INC_s ry
  | 0, 5 => .DEC_s ry
  | 0, 6 => ldImmVariant ry b1
  | 0, _ => [Variant.RLCA, .RRCA, .RLA, .RRA, .DAA, .CPL, .SCF, .CCF].getD y .NOP
  | 1, _ => ldVariant ry rz
  | 2, _ => .ALU_s (tableAlu.getD y .CP) rz
  | _, 0 => if y < 4 then .RET_cc (tableCC.getD y .C) else
      [Variant.LDH_a8_A b1, .ADD_SP_e8 b1, .LDH_A_a8 b1, .LDHL_SP_e8 b1].getD (y - 4) .NOP
  | _, 1 =>
    if q = 0 then (if rp2 = .AF then .POP_AF else .POP_rr rp2) else [Variant.RET, .RETI, .JP_HL, .LD_SP_HL].getD p .NOP
  | _, 2 => if y < 4 then .JP_cc_a16 (tableCC.getD y .C) w else
      [Variant.LDH_C_A, .LD_a16_A w, .LDH_A_C, .LD_A_a16 w].getD (y - 4) .NOP
  | _, 3 =>
    match y with
    | 0 => .JP_a16 w
    | 1 => decodeFieldsCB b1
    | 6 => .DI
    | 7 => .EI
    | _ => .ILLEGAL b0
  | _, 4 => if y < 4 then .CALL_cc_a16 (tableCC.getD y .C) w else .ILLEGAL b0
  | _, 5 => if q = 0 then .PUSH_rr rp2 else if p = 0 then .CALL_a16 w else .ILLEGAL b0
  | _, 6 => .ALU_d8 (tableAlu.getD y .CP) b1
  | _, _ => .RST (8 * BitVec.ofNat 8 y)

/-! ## Words as spec/opcode_table.json numbers them -/

/-- The bytes, first byte first, of an instruction whose bits the table numbers as `w` (R78; notes/assumptions/6.md). The formats `OP`,
`OP_D8`, `OP_D16` apply to byte 0, in bits 7..0, and later bytes count on from it; the format `CB_OP` applies to `{byte0, byte1}`, byte 0
in the HIGH 8 bits. Every bit above `nbits` is zero. -/
def tableWordBytes (nbits w : Nat) : Byte × Byte × Byte :=
  let w := w % 2 ^ nbits
  let b0 : Byte := BitVec.ofNat 8 w
  let b1 : Byte := BitVec.ofNat 8 (w / 256)
  let b2 : Byte := BitVec.ofNat 8 (w / 65536)
  if nbits = 16 ∧ b1 = 0xCB then (b1, b0, b2) else (b0, b1, b2)

/-- The instruction the decoder reads from a table word. No word is refused: the bits above `nbits` are zero (R61 "decode never fails"). -/
def decodeTableWord (nbits w : Nat) : Option Instr :=
  let (b0, b1, b2) := tableWordBytes nbits w
  some (decode b0 b1 b2)

end Sys2Proof
end

