-- ==== Sys2Proof/Machine/Misc.lean ====
section
/-! DEFINITION. NOP, STOP, HALT, DI, EI and the eleven illegal bytes (spec/46_misc.md). One meaning per row of the opcode table, over the shared operations. -/

namespace Sys2Proof.Machine

/-- The eleven unassigned bytes (R225): a no-operation of length 1, or, under `ILLEGAL_POLICY = fault`, a stop that changes nothing and
reports `decode_failure(here, opcode)` (D14). -/
def illegalOp (op : Byte) (s : State) : Outcome :=
  match s.params.illegalPolicy with
  | .nop => seq 1 s
  | .fault => .fault (.decodeFailure s.pc op)

/-! ## The rows of the opcode table -/

/-- NOP: 00 (R220). -/
def exec_NOP (s : State) : Outcome := seq 1 s

/-- STOP: 10 (R221). -/
def exec_STOP (s : State) : Outcome := seq s.params.stopLength.bytes s

/-- HALT: 76 (R222). -/
def exec_HALT (s : State) : Outcome := seq 1 { s with halted := true }

/-- DI: F3 (R223). -/
def exec_DI (s : State) : Outcome := seq 1 (s.issue .intDisable)

/-- EI: FB (R224). -/
def exec_EI (s : State) : Outcome := seq 1 (s.issue .intEnable)

/-- ILLEGAL: D3 (R225). -/
def exec_ILLEGAL_D3 (s : State) : Outcome := illegalOp 0xD3 s

/-- ILLEGAL: DB (R225). -/
def exec_ILLEGAL_DB (s : State) : Outcome := illegalOp 0xDB s

/-- ILLEGAL: DD (R225). -/
def exec_ILLEGAL_DD (s : State) : Outcome := illegalOp 0xDD s

/-- ILLEGAL: E3 (R225). -/
def exec_ILLEGAL_E3 (s : State) : Outcome := illegalOp 0xE3 s

/-- ILLEGAL: E4 (R225). -/
def exec_ILLEGAL_E4 (s : State) : Outcome := illegalOp 0xE4 s

/-- ILLEGAL: EB (R225). -/
def exec_ILLEGAL_EB (s : State) : Outcome := illegalOp 0xEB s

/-- ILLEGAL: EC (R225). -/
def exec_ILLEGAL_EC (s : State) : Outcome := illegalOp 0xEC s

/-- ILLEGAL: ED (R225). -/
def exec_ILLEGAL_ED (s : State) : Outcome := illegalOp 0xED s

/-- ILLEGAL: F4 (R225). -/
def exec_ILLEGAL_F4 (s : State) : Outcome := illegalOp 0xF4 s

/-- ILLEGAL: FC (R225). -/
def exec_ILLEGAL_FC (s : State) : Outcome := illegalOp 0xFC s

/-- ILLEGAL: FD (R225). -/
def exec_ILLEGAL_FD (s : State) : Outcome := illegalOp 0xFD s

end Sys2Proof.Machine
end

