-- ==== Sys2Proof/Machine/Rotate.lean ====
section
/-! DEFINITION. Rotates, shifts and SWAP (spec/44_rotate_shift_bit.md sections 2 and 3). One meaning per row of the opcode table, over the shared operations. -/

namespace Sys2Proof.Machine

/-- The accumulator rotates: A and C from the primitive, N = 0, H = 0, Z unaffected (R171 to R174, C7). -/
def rotA (r : ShiftOut) (s : State) : Outcome :=
  seq 1 ((s.set8 .A r.result).writeFlags { n := some false, h := some false, c := some r.out })

/-- The primitive and the bit shifted in of each operation of table `rot`; `fC` is the current C (R176 to R183). -/
def rotApply (op : RotOp) (v : Byte) (fC : Bool) : ShiftOut :=
  match op with
  | .RLC => rotateLeft1 v (bitAt v 7)
  | .RRC => rotateRight1 v (bitAt v 0)
  | .RL => rotateLeft1 v fC
  | .RR => rotateRight1 v fC
  | .SLA => shiftLeft1 v
  | .SRA => shiftRight1Arithmetic v
  | .SWAP => swapNibbles v
  | .SRL => shiftRight1Logical v

/-- The pattern of R175: read `loc8[z]`, write the result back, Z from the result, N = 0, H = 0, C the bit shifted out. -/
def rotLoc (op : RotOp) (x : Loc8) (s : State) : Outcome :=
  let r := rotApply op (s.readLoc x) (s.flag .C)
  seq 2 ((s.writeLoc x r.result).writeFlags (FlagWrite.all (isZero r.result) false false r.out))

/-! ## The rows of the opcode table -/

/-- RLCA: 07 (R171). -/
def exec_RLCA (s : State) : Outcome := rotA (rotateLeft1 s.a (bitAt s.a 7)) s

/-- RLA: 17 (R172). -/
def exec_RLA (s : State) : Outcome := rotA (rotateLeft1 s.a (s.flag .C)) s

/-- RRCA: 0F (R173). -/
def exec_RRCA (s : State) : Outcome := rotA (rotateRight1 s.a (bitAt s.a 0)) s

/-- RRA: 1F (R174). -/
def exec_RRA (s : State) : Outcome := rotA (rotateRight1 s.a (s.flag .C)) s

/-- RLC B: CB 00 (R176). -/
def exec_RLC_B (s : State) : Outcome := rotLoc .RLC (.reg .B) s

/-- RLC C: CB 01 (R176). -/
def exec_RLC_C (s : State) : Outcome := rotLoc .RLC (.reg .C) s

/-- RLC D: CB 02 (R176). -/
def exec_RLC_D (s : State) : Outcome := rotLoc .RLC (.reg .D) s

/-- RLC E: CB 03 (R176). -/
def exec_RLC_E (s : State) : Outcome := rotLoc .RLC (.reg .E) s

/-- RLC H: CB 04 (R176). -/
def exec_RLC_H (s : State) : Outcome := rotLoc .RLC (.reg .H) s

/-- RLC L: CB 05 (R176). -/
def exec_RLC_L (s : State) : Outcome := rotLoc .RLC (.reg .L) s

/-- RLC (HL): CB 06 (R176). -/
def exec_RLC_HLm (s : State) : Outcome := rotLoc .RLC .HLm s

/-- RLC A: CB 07 (R176). -/
def exec_RLC_A (s : State) : Outcome := rotLoc .RLC (.reg .A) s

/-- RRC B: CB 08 (R177). -/
def exec_RRC_B (s : State) : Outcome := rotLoc .RRC (.reg .B) s

/-- RRC C: CB 09 (R177). -/
def exec_RRC_C (s : State) : Outcome := rotLoc .RRC (.reg .C) s

/-- RRC D: CB 0A (R177). -/
def exec_RRC_D (s : State) : Outcome := rotLoc .RRC (.reg .D) s

/-- RRC E: CB 0B (R177). -/
def exec_RRC_E (s : State) : Outcome := rotLoc .RRC (.reg .E) s

/-- RRC H: CB 0C (R177). -/
def exec_RRC_H (s : State) : Outcome := rotLoc .RRC (.reg .H) s

/-- RRC L: CB 0D (R177). -/
def exec_RRC_L (s : State) : Outcome := rotLoc .RRC (.reg .L) s

/-- RRC (HL): CB 0E (R177). -/
def exec_RRC_HLm (s : State) : Outcome := rotLoc .RRC .HLm s

/-- RRC A: CB 0F (R177). -/
def exec_RRC_A (s : State) : Outcome := rotLoc .RRC (.reg .A) s

/-- RL B: CB 10 (R178). -/
def exec_RL_B (s : State) : Outcome := rotLoc .RL (.reg .B) s

/-- RL C: CB 11 (R178). -/
def exec_RL_C (s : State) : Outcome := rotLoc .RL (.reg .C) s

/-- RL D: CB 12 (R178). -/
def exec_RL_D (s : State) : Outcome := rotLoc .RL (.reg .D) s

/-- RL E: CB 13 (R178). -/
def exec_RL_E (s : State) : Outcome := rotLoc .RL (.reg .E) s

/-- RL H: CB 14 (R178). -/
def exec_RL_H (s : State) : Outcome := rotLoc .RL (.reg .H) s

/-- RL L: CB 15 (R178). -/
def exec_RL_L (s : State) : Outcome := rotLoc .RL (.reg .L) s

/-- RL (HL): CB 16 (R178). -/
def exec_RL_HLm (s : State) : Outcome := rotLoc .RL .HLm s

/-- RL A: CB 17 (R178). -/
def exec_RL_A (s : State) : Outcome := rotLoc .RL (.reg .A) s

/-- RR B: CB 18 (R179). -/
def exec_RR_B (s : State) : Outcome := rotLoc .RR (.reg .B) s

/-- RR C: CB 19 (R179). -/
def exec_RR_C (s : State) : Outcome := rotLoc .RR (.reg .C) s

/-- RR D: CB 1A (R179). -/
def exec_RR_D (s : State) : Outcome := rotLoc .RR (.reg .D) s

/-- RR E: CB 1B (R179). -/
def exec_RR_E (s : State) : Outcome := rotLoc .RR (.reg .E) s

/-- RR H: CB 1C (R179). -/
def exec_RR_H (s : State) : Outcome := rotLoc .RR (.reg .H) s

/-- RR L: CB 1D (R179). -/
def exec_RR_L (s : State) : Outcome := rotLoc .RR (.reg .L) s

/-- RR (HL): CB 1E (R179). -/
def exec_RR_HLm (s : State) : Outcome := rotLoc .RR .HLm s

/-- RR A: CB 1F (R179). -/
def exec_RR_A (s : State) : Outcome := rotLoc .RR (.reg .A) s

/-- SLA B: CB 20 (R180). -/
def exec_SLA_B (s : State) : Outcome := rotLoc .SLA (.reg .B) s

/-- SLA C: CB 21 (R180). -/
def exec_SLA_C (s : State) : Outcome := rotLoc .SLA (.reg .C) s

/-- SLA D: CB 22 (R180). -/
def exec_SLA_D (s : State) : Outcome := rotLoc .SLA (.reg .D) s

/-- SLA E: CB 23 (R180). -/
def exec_SLA_E (s : State) : Outcome := rotLoc .SLA (.reg .E) s

/-- SLA H: CB 24 (R180). -/
def exec_SLA_H (s : State) : Outcome := rotLoc .SLA (.reg .H) s

/-- SLA L: CB 25 (R180). -/
def exec_SLA_L (s : State) : Outcome := rotLoc .SLA (.reg .L) s

/-- SLA (HL): CB 26 (R180). -/
def exec_SLA_HLm (s : State) : Outcome := rotLoc .SLA .HLm s

/-- SLA A: CB 27 (R180). -/
def exec_SLA_A (s : State) : Outcome := rotLoc .SLA (.reg .A) s

/-- SRA B: CB 28 (R181). -/
def exec_SRA_B (s : State) : Outcome := rotLoc .SRA (.reg .B) s

/-- SRA C: CB 29 (R181). -/
def exec_SRA_C (s : State) : Outcome := rotLoc .SRA (.reg .C) s

/-- SRA D: CB 2A (R181). -/
def exec_SRA_D (s : State) : Outcome := rotLoc .SRA (.reg .D) s

/-- SRA E: CB 2B (R181). -/
def exec_SRA_E (s : State) : Outcome := rotLoc .SRA (.reg .E) s

/-- SRA H: CB 2C (R181). -/
def exec_SRA_H (s : State) : Outcome := rotLoc .SRA (.reg .H) s

/-- SRA L: CB 2D (R181). -/
def exec_SRA_L (s : State) : Outcome := rotLoc .SRA (.reg .L) s

/-- SRA (HL): CB 2E (R181). -/
def exec_SRA_HLm (s : State) : Outcome := rotLoc .SRA .HLm s

/-- SRA A: CB 2F (R181). -/
def exec_SRA_A (s : State) : Outcome := rotLoc .SRA (.reg .A) s

/-- SWAP B: CB 30 (R182). -/
def exec_SWAP_B (s : State) : Outcome := rotLoc .SWAP (.reg .B) s

/-- SWAP C: CB 31 (R182). -/
def exec_SWAP_C (s : State) : Outcome := rotLoc .SWAP (.reg .C) s

/-- SWAP D: CB 32 (R182). -/
def exec_SWAP_D (s : State) : Outcome := rotLoc .SWAP (.reg .D) s

/-- SWAP E: CB 33 (R182). -/
def exec_SWAP_E (s : State) : Outcome := rotLoc .SWAP (.reg .E) s

/-- SWAP H: CB 34 (R182). -/
def exec_SWAP_H (s : State) : Outcome := rotLoc .SWAP (.reg .H) s

/-- SWAP L: CB 35 (R182). -/
def exec_SWAP_L (s : State) : Outcome := rotLoc .SWAP (.reg .L) s

/-- SWAP (HL): CB 36 (R182). -/
def exec_SWAP_HLm (s : State) : Outcome := rotLoc .SWAP .HLm s

/-- SWAP A: CB 37 (R182). -/
def exec_SWAP_A (s : State) : Outcome := rotLoc .SWAP (.reg .A) s

/-- SRL B: CB 38 (R183). -/
def exec_SRL_B (s : State) : Outcome := rotLoc .SRL (.reg .B) s

/-- SRL C: CB 39 (R183). -/
def exec_SRL_C (s : State) : Outcome := rotLoc .SRL (.reg .C) s

/-- SRL D: CB 3A (R183). -/
def exec_SRL_D (s : State) : Outcome := rotLoc .SRL (.reg .D) s

/-- SRL E: CB 3B (R183). -/
def exec_SRL_E (s : State) : Outcome := rotLoc .SRL (.reg .E) s

/-- SRL H: CB 3C (R183). -/
def exec_SRL_H (s : State) : Outcome := rotLoc .SRL (.reg .H) s

/-- SRL L: CB 3D (R183). -/
def exec_SRL_L (s : State) : Outcome := rotLoc .SRL (.reg .L) s

/-- SRL (HL): CB 3E (R183). -/
def exec_SRL_HLm (s : State) : Outcome := rotLoc .SRL .HLm s

/-- SRL A: CB 3F (R183). -/
def exec_SRL_A (s : State) : Outcome := rotLoc .SRL (.reg .A) s

end Sys2Proof.Machine
end

