-- ==== Sys2Proof/Machine/Dispatch.lean ====
section
/-! DEFINITION. The execution of one decoded instruction (spec/10_state.md R19, steps 3 and 4): one arm per row of the opcode table, each
calling its meaning. -/

namespace Sys2Proof.Machine

open Sys2Proof

def exec (i : Instr) (s : State) : Host.Outcome State Fault Refusal :=
  match i with
  | .NOP => Sys2Proof.Machine.exec_NOP s
  | .LD_BC_d16 d => Sys2Proof.Machine.exec_LD_BC_d16 d s
  | .LD_BCm_A => Sys2Proof.Machine.exec_LD_BCm_A s
  | .INC_BC => Sys2Proof.Machine.exec_INC_BC s
  | .INC_B => Sys2Proof.Machine.exec_INC_B s
  | .DEC_B => Sys2Proof.Machine.exec_DEC_B s
  | .LD_B_d8 d => Sys2Proof.Machine.exec_LD_B_d8 d s
  | .RLCA => Sys2Proof.Machine.exec_RLCA s
  | .LD_a16m_SP a => Sys2Proof.Machine.exec_LD_a16m_SP a s
  | .ADD_HL_BC => Sys2Proof.Machine.exec_ADD_HL_BC s
  | .LD_A_BCm => Sys2Proof.Machine.exec_LD_A_BCm s
  | .DEC_BC => Sys2Proof.Machine.exec_DEC_BC s
  | .INC_C => Sys2Proof.Machine.exec_INC_C s
  | .DEC_C => Sys2Proof.Machine.exec_DEC_C s
  | .LD_C_d8 d => Sys2Proof.Machine.exec_LD_C_d8 d s
  | .RRCA => Sys2Proof.Machine.exec_RRCA s
  | .STOP => Sys2Proof.Machine.exec_STOP s
  | .LD_DE_d16 d => Sys2Proof.Machine.exec_LD_DE_d16 d s
  | .LD_DEm_A => Sys2Proof.Machine.exec_LD_DEm_A s
  | .INC_DE => Sys2Proof.Machine.exec_INC_DE s
  | .INC_D => Sys2Proof.Machine.exec_INC_D s
  | .DEC_D => Sys2Proof.Machine.exec_DEC_D s
  | .LD_D_d8 d => Sys2Proof.Machine.exec_LD_D_d8 d s
  | .RLA => Sys2Proof.Machine.exec_RLA s
  | .JR_e8 e => Sys2Proof.Machine.exec_JR_e8 e s
  | .ADD_HL_DE => Sys2Proof.Machine.exec_ADD_HL_DE s
  | .LD_A_DEm => Sys2Proof.Machine.exec_LD_A_DEm s
  | .DEC_DE => Sys2Proof.Machine.exec_DEC_DE s
  | .INC_E => Sys2Proof.Machine.exec_INC_E s
  | .DEC_E => Sys2Proof.Machine.exec_DEC_E s
  | .LD_E_d8 d => Sys2Proof.Machine.exec_LD_E_d8 d s
  | .RRA => Sys2Proof.Machine.exec_RRA s
  | .JR_NZ_e8 e => Sys2Proof.Machine.exec_JR_NZ_e8 e s
  | .LD_HL_d16 d => Sys2Proof.Machine.exec_LD_HL_d16 d s
  | .LDI_HLm_A => Sys2Proof.Machine.exec_LDI_HLm_A s
  | .INC_HL => Sys2Proof.Machine.exec_INC_HL s
  | .INC_H => Sys2Proof.Machine.exec_INC_H s
  | .DEC_H => Sys2Proof.Machine.exec_DEC_H s
  | .LD_H_d8 d => Sys2Proof.Machine.exec_LD_H_d8 d s
  | .DAA => Sys2Proof.Machine.exec_DAA s
  | .JR_Z_e8 e => Sys2Proof.Machine.exec_JR_Z_e8 e s
  | .ADD_HL_HL => Sys2Proof.Machine.exec_ADD_HL_HL s
  | .LDI_A_HLm => Sys2Proof.Machine.exec_LDI_A_HLm s
  | .DEC_HL => Sys2Proof.Machine.exec_DEC_HL s
  | .INC_L => Sys2Proof.Machine.exec_INC_L s
  | .DEC_L => Sys2Proof.Machine.exec_DEC_L s
  | .LD_L_d8 d => Sys2Proof.Machine.exec_LD_L_d8 d s
  | .CPL => Sys2Proof.Machine.exec_CPL s
  | .JR_NC_e8 e => Sys2Proof.Machine.exec_JR_NC_e8 e s
  | .LD_SP_d16 d => Sys2Proof.Machine.exec_LD_SP_d16 d s
  | .LDD_HLm_A => Sys2Proof.Machine.exec_LDD_HLm_A s
  | .INC_SP => Sys2Proof.Machine.exec_INC_SP s
  | .INC_HLm => Sys2Proof.Machine.exec_INC_HLm s
  | .DEC_HLm => Sys2Proof.Machine.exec_DEC_HLm s
  | .LD_HLm_d8 d => Sys2Proof.Machine.exec_LD_HLm_d8 d s
  | .SCF => Sys2Proof.Machine.exec_SCF s
  | .JR_C_e8 e => Sys2Proof.Machine.exec_JR_C_e8 e s
  | .ADD_HL_SP => Sys2Proof.Machine.exec_ADD_HL_SP s
  | .LDD_A_HLm => Sys2Proof.Machine.exec_LDD_A_HLm s
  | .DEC_SP => Sys2Proof.Machine.exec_DEC_SP s
  | .INC_A => Sys2Proof.Machine.exec_INC_A s
  | .DEC_A => Sys2Proof.Machine.exec_DEC_A s
  | .LD_A_d8 d => Sys2Proof.Machine.exec_LD_A_d8 d s
  | .CCF => Sys2Proof.Machine.exec_CCF s
  | .LD_B_B => Sys2Proof.Machine.exec_LD_B_B s
  | .LD_B_C => Sys2Proof.Machine.exec_LD_B_C s
  | .LD_B_D => Sys2Proof.Machine.exec_LD_B_D s
  | .LD_B_E => Sys2Proof.Machine.exec_LD_B_E s
  | .LD_B_H => Sys2Proof.Machine.exec_LD_B_H s
  | .LD_B_L => Sys2Proof.Machine.exec_LD_B_L s
  | .LD_B_HLm => Sys2Proof.Machine.exec_LD_B_HLm s
  | .LD_B_A => Sys2Proof.Machine.exec_LD_B_A s
  | .LD_C_B => Sys2Proof.Machine.exec_LD_C_B s
  | .LD_C_C => Sys2Proof.Machine.exec_LD_C_C s
  | .LD_C_D => Sys2Proof.Machine.exec_LD_C_D s
  | .LD_C_E => Sys2Proof.Machine.exec_LD_C_E s
  | .LD_C_H => Sys2Proof.Machine.exec_LD_C_H s
  | .LD_C_L => Sys2Proof.Machine.exec_LD_C_L s
  | .LD_C_HLm => Sys2Proof.Machine.exec_LD_C_HLm s
  | .LD_C_A => Sys2Proof.Machine.exec_LD_C_A s
  | .LD_D_B => Sys2Proof.Machine.exec_LD_D_B s
  | .LD_D_C => Sys2Proof.Machine.exec_LD_D_C s
  | .LD_D_D => Sys2Proof.Machine.exec_LD_D_D s
  | .LD_D_E => Sys2Proof.Machine.exec_LD_D_E s
  | .LD_D_H => Sys2Proof.Machine.exec_LD_D_H s
  | .LD_D_L => Sys2Proof.Machine.exec_LD_D_L s
  | .LD_D_HLm => Sys2Proof.Machine.exec_LD_D_HLm s
  | .LD_D_A => Sys2Proof.Machine.exec_LD_D_A s
  | .LD_E_B => Sys2Proof.Machine.exec_LD_E_B s
  | .LD_E_C => Sys2Proof.Machine.exec_LD_E_C s
  | .LD_E_D => Sys2Proof.Machine.exec_LD_E_D s
  | .LD_E_E => Sys2Proof.Machine.exec_LD_E_E s
  | .LD_E_H => Sys2Proof.Machine.exec_LD_E_H s
  | .LD_E_L => Sys2Proof.Machine.exec_LD_E_L s
  | .LD_E_HLm => Sys2Proof.Machine.exec_LD_E_HLm s
  | .LD_E_A => Sys2Proof.Machine.exec_LD_E_A s
  | .LD_H_B => Sys2Proof.Machine.exec_LD_H_B s
  | .LD_H_C => Sys2Proof.Machine.exec_LD_H_C s
  | .LD_H_D => Sys2Proof.Machine.exec_LD_H_D s
  | .LD_H_E => Sys2Proof.Machine.exec_LD_H_E s
  | .LD_H_H => Sys2Proof.Machine.exec_LD_H_H s
  | .LD_H_L => Sys2Proof.Machine.exec_LD_H_L s
  | .LD_H_HLm => Sys2Proof.Machine.exec_LD_H_HLm s
  | .LD_H_A => Sys2Proof.Machine.exec_LD_H_A s
  | .LD_L_B => Sys2Proof.Machine.exec_LD_L_B s
  | .LD_L_C => Sys2Proof.Machine.exec_LD_L_C s
  | .LD_L_D => Sys2Proof.Machine.exec_LD_L_D s
  | .LD_L_E => Sys2Proof.Machine.exec_LD_L_E s
  | .LD_L_H => Sys2Proof.Machine.exec_LD_L_H s
  | .LD_L_L => Sys2Proof.Machine.exec_LD_L_L s
  | .LD_L_HLm => Sys2Proof.Machine.exec_LD_L_HLm s
  | .LD_L_A => Sys2Proof.Machine.exec_LD_L_A s
  | .LD_HLm_B => Sys2Proof.Machine.exec_LD_HLm_B s
  | .LD_HLm_C => Sys2Proof.Machine.exec_LD_HLm_C s
  | .LD_HLm_D => Sys2Proof.Machine.exec_LD_HLm_D s
  | .LD_HLm_E => Sys2Proof.Machine.exec_LD_HLm_E s
  | .LD_HLm_H => Sys2Proof.Machine.exec_LD_HLm_H s
  | .LD_HLm_L => Sys2Proof.Machine.exec_LD_HLm_L s
  | .HALT => Sys2Proof.Machine.exec_HALT s
  | .LD_HLm_A => Sys2Proof.Machine.exec_LD_HLm_A s
  | .LD_A_B => Sys2Proof.Machine.exec_LD_A_B s
  | .LD_A_C => Sys2Proof.Machine.exec_LD_A_C s
  | .LD_A_D => Sys2Proof.Machine.exec_LD_A_D s
  | .LD_A_E => Sys2Proof.Machine.exec_LD_A_E s
  | .LD_A_H => Sys2Proof.Machine.exec_LD_A_H s
  | .LD_A_L => Sys2Proof.Machine.exec_LD_A_L s
  | .LD_A_HLm => Sys2Proof.Machine.exec_LD_A_HLm s
  | .LD_A_A => Sys2Proof.Machine.exec_LD_A_A s
  | .ADD_A_B => Sys2Proof.Machine.exec_ADD_A_B s
  | .ADD_A_C => Sys2Proof.Machine.exec_ADD_A_C s
  | .ADD_A_D => Sys2Proof.Machine.exec_ADD_A_D s
  | .ADD_A_E => Sys2Proof.Machine.exec_ADD_A_E s
  | .ADD_A_H => Sys2Proof.Machine.exec_ADD_A_H s
  | .ADD_A_L => Sys2Proof.Machine.exec_ADD_A_L s
  | .ADD_A_HLm => Sys2Proof.Machine.exec_ADD_A_HLm s
  | .ADD_A_A => Sys2Proof.Machine.exec_ADD_A_A s
  | .ADC_A_B => Sys2Proof.Machine.exec_ADC_A_B s
  | .ADC_A_C => Sys2Proof.Machine.exec_ADC_A_C s
  | .ADC_A_D => Sys2Proof.Machine.exec_ADC_A_D s
  | .ADC_A_E => Sys2Proof.Machine.exec_ADC_A_E s
  | .ADC_A_H => Sys2Proof.Machine.exec_ADC_A_H s
  | .ADC_A_L => Sys2Proof.Machine.exec_ADC_A_L s
  | .ADC_A_HLm => Sys2Proof.Machine.exec_ADC_A_HLm s
  | .ADC_A_A => Sys2Proof.Machine.exec_ADC_A_A s
  | .SUB_B => Sys2Proof.Machine.exec_SUB_B s
  | .SUB_C => Sys2Proof.Machine.exec_SUB_C s
  | .SUB_D => Sys2Proof.Machine.exec_SUB_D s
  | .SUB_E => Sys2Proof.Machine.exec_SUB_E s
  | .SUB_H => Sys2Proof.Machine.exec_SUB_H s
  | .SUB_L => Sys2Proof.Machine.exec_SUB_L s
  | .SUB_HLm => Sys2Proof.Machine.exec_SUB_HLm s
  | .SUB_A => Sys2Proof.Machine.exec_SUB_A s
  | .SBC_A_B => Sys2Proof.Machine.exec_SBC_A_B s
  | .SBC_A_C => Sys2Proof.Machine.exec_SBC_A_C s
  | .SBC_A_D => Sys2Proof.Machine.exec_SBC_A_D s
  | .SBC_A_E => Sys2Proof.Machine.exec_SBC_A_E s
  | .SBC_A_H => Sys2Proof.Machine.exec_SBC_A_H s
  | .SBC_A_L => Sys2Proof.Machine.exec_SBC_A_L s
  | .SBC_A_HLm => Sys2Proof.Machine.exec_SBC_A_HLm s
  | .SBC_A_A => Sys2Proof.Machine.exec_SBC_A_A s
  | .AND_B => Sys2Proof.Machine.exec_AND_B s
  | .AND_C => Sys2Proof.Machine.exec_AND_C s
  | .AND_D => Sys2Proof.Machine.exec_AND_D s
  | .AND_E => Sys2Proof.Machine.exec_AND_E s
  | .AND_H => Sys2Proof.Machine.exec_AND_H s
  | .AND_L => Sys2Proof.Machine.exec_AND_L s
  | .AND_HLm => Sys2Proof.Machine.exec_AND_HLm s
  | .AND_A => Sys2Proof.Machine.exec_AND_A s
  | .XOR_B => Sys2Proof.Machine.exec_XOR_B s
  | .XOR_C => Sys2Proof.Machine.exec_XOR_C s
  | .XOR_D => Sys2Proof.Machine.exec_XOR_D s
  | .XOR_E => Sys2Proof.Machine.exec_XOR_E s
  | .XOR_H => Sys2Proof.Machine.exec_XOR_H s
  | .XOR_L => Sys2Proof.Machine.exec_XOR_L s
  | .XOR_HLm => Sys2Proof.Machine.exec_XOR_HLm s
  | .XOR_A => Sys2Proof.Machine.exec_XOR_A s
  | .OR_B => Sys2Proof.Machine.exec_OR_B s
  | .OR_C => Sys2Proof.Machine.exec_OR_C s
  | .OR_D => Sys2Proof.Machine.exec_OR_D s
  | .OR_E => Sys2Proof.Machine.exec_OR_E s
  | .OR_H => Sys2Proof.Machine.exec_OR_H s
  | .OR_L => Sys2Proof.Machine.exec_OR_L s
  | .OR_HLm => Sys2Proof.Machine.exec_OR_HLm s
  | .OR_A => Sys2Proof.Machine.exec_OR_A s
  | .CP_B => Sys2Proof.Machine.exec_CP_B s
  | .CP_C => Sys2Proof.Machine.exec_CP_C s
  | .CP_D => Sys2Proof.Machine.exec_CP_D s
  | .CP_E => Sys2Proof.Machine.exec_CP_E s
  | .CP_H => Sys2Proof.Machine.exec_CP_H s
  | .CP_L => Sys2Proof.Machine.exec_CP_L s
  | .CP_HLm => Sys2Proof.Machine.exec_CP_HLm s
  | .CP_A => Sys2Proof.Machine.exec_CP_A s
  | .RET_NZ => Sys2Proof.Machine.exec_RET_NZ s
  | .POP_BC => Sys2Proof.Machine.exec_POP_BC s
  | .JP_NZ_a16 a => Sys2Proof.Machine.exec_JP_NZ_a16 a s
  | .JP_a16 a => Sys2Proof.Machine.exec_JP_a16 a s
  | .CALL_NZ_a16 a => Sys2Proof.Machine.exec_CALL_NZ_a16 a s
  | .PUSH_BC => Sys2Proof.Machine.exec_PUSH_BC s
  | .ADD_A_d8 d => Sys2Proof.Machine.exec_ADD_A_d8 d s
  | .RST_0x00 => Sys2Proof.Machine.exec_RST_0x00 s
  | .RET_Z => Sys2Proof.Machine.exec_RET_Z s
  | .RET => Sys2Proof.Machine.exec_RET s
  | .JP_Z_a16 a => Sys2Proof.Machine.exec_JP_Z_a16 a s
  | .CALL_Z_a16 a => Sys2Proof.Machine.exec_CALL_Z_a16 a s
  | .CALL_a16 a => Sys2Proof.Machine.exec_CALL_a16 a s
  | .ADC_A_d8 d => Sys2Proof.Machine.exec_ADC_A_d8 d s
  | .RST_0x08 => Sys2Proof.Machine.exec_RST_0x08 s
  | .RET_NC => Sys2Proof.Machine.exec_RET_NC s
  | .POP_DE => Sys2Proof.Machine.exec_POP_DE s
  | .JP_NC_a16 a => Sys2Proof.Machine.exec_JP_NC_a16 a s
  | .ILLEGAL_D3 => Sys2Proof.Machine.exec_ILLEGAL_D3 s
  | .CALL_NC_a16 a => Sys2Proof.Machine.exec_CALL_NC_a16 a s
  | .PUSH_DE => Sys2Proof.Machine.exec_PUSH_DE s
  | .SUB_d8 d => Sys2Proof.Machine.exec_SUB_d8 d s
  | .RST_0x10 => Sys2Proof.Machine.exec_RST_0x10 s
  | .RET_C => Sys2Proof.Machine.exec_RET_C s
  | .RETI => Sys2Proof.Machine.exec_RETI s
  | .JP_C_a16 a => Sys2Proof.Machine.exec_JP_C_a16 a s
  | .ILLEGAL_DB => Sys2Proof.Machine.exec_ILLEGAL_DB s
  | .CALL_C_a16 a => Sys2Proof.Machine.exec_CALL_C_a16 a s
  | .ILLEGAL_DD => Sys2Proof.Machine.exec_ILLEGAL_DD s
  | .SBC_A_d8 d => Sys2Proof.Machine.exec_SBC_A_d8 d s
  | .RST_0x18 => Sys2Proof.Machine.exec_RST_0x18 s
  | .LDH_a8m_A o => Sys2Proof.Machine.exec_LDH_a8m_A o s
  | .POP_HL => Sys2Proof.Machine.exec_POP_HL s
  | .LDH_Cm_A => Sys2Proof.Machine.exec_LDH_Cm_A s
  | .ILLEGAL_E3 => Sys2Proof.Machine.exec_ILLEGAL_E3 s
  | .ILLEGAL_E4 => Sys2Proof.Machine.exec_ILLEGAL_E4 s
  | .PUSH_HL => Sys2Proof.Machine.exec_PUSH_HL s
  | .AND_d8 d => Sys2Proof.Machine.exec_AND_d8 d s
  | .RST_0x20 => Sys2Proof.Machine.exec_RST_0x20 s
  | .ADD_SP_e8 e => Sys2Proof.Machine.exec_ADD_SP_e8 e s
  | .JP_HLm => Sys2Proof.Machine.exec_JP_HLm s
  | .LD_a16m_A a => Sys2Proof.Machine.exec_LD_a16m_A a s
  | .ILLEGAL_EB => Sys2Proof.Machine.exec_ILLEGAL_EB s
  | .ILLEGAL_EC => Sys2Proof.Machine.exec_ILLEGAL_EC s
  | .ILLEGAL_ED => Sys2Proof.Machine.exec_ILLEGAL_ED s
  | .XOR_d8 d => Sys2Proof.Machine.exec_XOR_d8 d s
  | .RST_0x28 => Sys2Proof.Machine.exec_RST_0x28 s
  | .LDH_A_a8m o => Sys2Proof.Machine.exec_LDH_A_a8m o s
  | .POP_AF => Sys2Proof.Machine.exec_POP_AF s
  | .LDH_A_Cm => Sys2Proof.Machine.exec_LDH_A_Cm s
  | .DI => Sys2Proof.Machine.exec_DI s
  | .ILLEGAL_F4 => Sys2Proof.Machine.exec_ILLEGAL_F4 s
  | .PUSH_AF => Sys2Proof.Machine.exec_PUSH_AF s
  | .OR_d8 d => Sys2Proof.Machine.exec_OR_d8 d s
  | .RST_0x30 => Sys2Proof.Machine.exec_RST_0x30 s
  | .LDHL_SP_e8 e => Sys2Proof.Machine.exec_LDHL_SP_e8 e s
  | .LD_SP_HL => Sys2Proof.Machine.exec_LD_SP_HL s
  | .LD_A_a16m a => Sys2Proof.Machine.exec_LD_A_a16m a s
  | .EI => Sys2Proof.Machine.exec_EI s
  | .ILLEGAL_FC => Sys2Proof.Machine.exec_ILLEGAL_FC s
  | .ILLEGAL_FD => Sys2Proof.Machine.exec_ILLEGAL_FD s
  | .CP_d8 d => Sys2Proof.Machine.exec_CP_d8 d s
  | .RST_0x38 => Sys2Proof.Machine.exec_RST_0x38 s
  | .RLC_B => Sys2Proof.Machine.exec_RLC_B s
  | .RLC_C => Sys2Proof.Machine.exec_RLC_C s
  | .RLC_D => Sys2Proof.Machine.exec_RLC_D s
  | .RLC_E => Sys2Proof.Machine.exec_RLC_E s
  | .RLC_H => Sys2Proof.Machine.exec_RLC_H s
  | .RLC_L => Sys2Proof.Machine.exec_RLC_L s
  | .RLC_HLm => Sys2Proof.Machine.exec_RLC_HLm s
  | .RLC_A => Sys2Proof.Machine.exec_RLC_A s
  | .RRC_B => Sys2Proof.Machine.exec_RRC_B s
  | .RRC_C => Sys2Proof.Machine.exec_RRC_C s
  | .RRC_D => Sys2Proof.Machine.exec_RRC_D s
  | .RRC_E => Sys2Proof.Machine.exec_RRC_E s
  | .RRC_H => Sys2Proof.Machine.exec_RRC_H s
  | .RRC_L => Sys2Proof.Machine.exec_RRC_L s
  | .RRC_HLm => Sys2Proof.Machine.exec_RRC_HLm s
  | .RRC_A => Sys2Proof.Machine.exec_RRC_A s
  | .RL_B => Sys2Proof.Machine.exec_RL_B s
  | .RL_C => Sys2Proof.Machine.exec_RL_C s
  | .RL_D => Sys2Proof.Machine.exec_RL_D s
  | .RL_E => Sys2Proof.Machine.exec_RL_E s
  | .RL_H => Sys2Proof.Machine.exec_RL_H s
  | .RL_L => Sys2Proof.Machine.exec_RL_L s
  | .RL_HLm => Sys2Proof.Machine.exec_RL_HLm s
  | .RL_A => Sys2Proof.Machine.exec_RL_A s
  | .RR_B => Sys2Proof.Machine.exec_RR_B s
  | .RR_C => Sys2Proof.Machine.exec_RR_C s
  | .RR_D => Sys2Proof.Machine.exec_RR_D s
  | .RR_E => Sys2Proof.Machine.exec_RR_E s
  | .RR_H => Sys2Proof.Machine.exec_RR_H s
  | .RR_L => Sys2Proof.Machine.exec_RR_L s
  | .RR_HLm => Sys2Proof.Machine.exec_RR_HLm s
  | .RR_A => Sys2Proof.Machine.exec_RR_A s
  | .SLA_B => Sys2Proof.Machine.exec_SLA_B s
  | .SLA_C => Sys2Proof.Machine.exec_SLA_C s
  | .SLA_D => Sys2Proof.Machine.exec_SLA_D s
  | .SLA_E => Sys2Proof.Machine.exec_SLA_E s
  | .SLA_H => Sys2Proof.Machine.exec_SLA_H s
  | .SLA_L => Sys2Proof.Machine.exec_SLA_L s
  | .SLA_HLm => Sys2Proof.Machine.exec_SLA_HLm s
  | .SLA_A => Sys2Proof.Machine.exec_SLA_A s
  | .SRA_B => Sys2Proof.Machine.exec_SRA_B s
  | .SRA_C => Sys2Proof.Machine.exec_SRA_C s
  | .SRA_D => Sys2Proof.Machine.exec_SRA_D s
  | .SRA_E => Sys2Proof.Machine.exec_SRA_E s
  | .SRA_H => Sys2Proof.Machine.exec_SRA_H s
  | .SRA_L => Sys2Proof.Machine.exec_SRA_L s
  | .SRA_HLm => Sys2Proof.Machine.exec_SRA_HLm s
  | .SRA_A => Sys2Proof.Machine.exec_SRA_A s
  | .SWAP_B => Sys2Proof.Machine.exec_SWAP_B s
  | .SWAP_C => Sys2Proof.Machine.exec_SWAP_C s
  | .SWAP_D => Sys2Proof.Machine.exec_SWAP_D s
  | .SWAP_E => Sys2Proof.Machine.exec_SWAP_E s
  | .SWAP_H => Sys2Proof.Machine.exec_SWAP_H s
  | .SWAP_L => Sys2Proof.Machine.exec_SWAP_L s
  | .SWAP_HLm => Sys2Proof.Machine.exec_SWAP_HLm s
  | .SWAP_A => Sys2Proof.Machine.exec_SWAP_A s
  | .SRL_B => Sys2Proof.Machine.exec_SRL_B s
  | .SRL_C => Sys2Proof.Machine.exec_SRL_C s
  | .SRL_D => Sys2Proof.Machine.exec_SRL_D s
  | .SRL_E => Sys2Proof.Machine.exec_SRL_E s
  | .SRL_H => Sys2Proof.Machine.exec_SRL_H s
  | .SRL_L => Sys2Proof.Machine.exec_SRL_L s
  | .SRL_HLm => Sys2Proof.Machine.exec_SRL_HLm s
  | .SRL_A => Sys2Proof.Machine.exec_SRL_A s
  | .BIT_0_B => Sys2Proof.Machine.exec_BIT_0_B s
  | .BIT_0_C => Sys2Proof.Machine.exec_BIT_0_C s
  | .BIT_0_D => Sys2Proof.Machine.exec_BIT_0_D s
  | .BIT_0_E => Sys2Proof.Machine.exec_BIT_0_E s
  | .BIT_0_H => Sys2Proof.Machine.exec_BIT_0_H s
  | .BIT_0_L => Sys2Proof.Machine.exec_BIT_0_L s
  | .BIT_0_HLm => Sys2Proof.Machine.exec_BIT_0_HLm s
  | .BIT_0_A => Sys2Proof.Machine.exec_BIT_0_A s
  | .BIT_1_B => Sys2Proof.Machine.exec_BIT_1_B s
  | .BIT_1_C => Sys2Proof.Machine.exec_BIT_1_C s
  | .BIT_1_D => Sys2Proof.Machine.exec_BIT_1_D s
  | .BIT_1_E => Sys2Proof.Machine.exec_BIT_1_E s
  | .BIT_1_H => Sys2Proof.Machine.exec_BIT_1_H s
  | .BIT_1_L => Sys2Proof.Machine.exec_BIT_1_L s
  | .BIT_1_HLm => Sys2Proof.Machine.exec_BIT_1_HLm s
  | .BIT_1_A => Sys2Proof.Machine.exec_BIT_1_A s
  | .BIT_2_B => Sys2Proof.Machine.exec_BIT_2_B s
  | .BIT_2_C => Sys2Proof.Machine.exec_BIT_2_C s
  | .BIT_2_D => Sys2Proof.Machine.exec_BIT_2_D s
  | .BIT_2_E => Sys2Proof.Machine.exec_BIT_2_E s
  | .BIT_2_H => Sys2Proof.Machine.exec_BIT_2_H s
  | .BIT_2_L => Sys2Proof.Machine.exec_BIT_2_L s
  | .BIT_2_HLm => Sys2Proof.Machine.exec_BIT_2_HLm s
  | .BIT_2_A => Sys2Proof.Machine.exec_BIT_2_A s
  | .BIT_3_B => Sys2Proof.Machine.exec_BIT_3_B s
  | .BIT_3_C => Sys2Proof.Machine.exec_BIT_3_C s
  | .BIT_3_D => Sys2Proof.Machine.exec_BIT_3_D s
  | .BIT_3_E => Sys2Proof.Machine.exec_BIT_3_E s
  | .BIT_3_H => Sys2Proof.Machine.exec_BIT_3_H s
  | .BIT_3_L => Sys2Proof.Machine.exec_BIT_3_L s
  | .BIT_3_HLm => Sys2Proof.Machine.exec_BIT_3_HLm s
  | .BIT_3_A => Sys2Proof.Machine.exec_BIT_3_A s
  | .BIT_4_B => Sys2Proof.Machine.exec_BIT_4_B s
  | .BIT_4_C => Sys2Proof.Machine.exec_BIT_4_C s
  | .BIT_4_D => Sys2Proof.Machine.exec_BIT_4_D s
  | .BIT_4_E => Sys2Proof.Machine.exec_BIT_4_E s
  | .BIT_4_H => Sys2Proof.Machine.exec_BIT_4_H s
  | .BIT_4_L => Sys2Proof.Machine.exec_BIT_4_L s
  | .BIT_4_HLm => Sys2Proof.Machine.exec_BIT_4_HLm s
  | .BIT_4_A => Sys2Proof.Machine.exec_BIT_4_A s
  | .BIT_5_B => Sys2Proof.Machine.exec_BIT_5_B s
  | .BIT_5_C => Sys2Proof.Machine.exec_BIT_5_C s
  | .BIT_5_D => Sys2Proof.Machine.exec_BIT_5_D s
  | .BIT_5_E => Sys2Proof.Machine.exec_BIT_5_E s
  | .BIT_5_H => Sys2Proof.Machine.exec_BIT_5_H s
  | .BIT_5_L => Sys2Proof.Machine.exec_BIT_5_L s
  | .BIT_5_HLm => Sys2Proof.Machine.exec_BIT_5_HLm s
  | .BIT_5_A => Sys2Proof.Machine.exec_BIT_5_A s
  | .BIT_6_B => Sys2Proof.Machine.exec_BIT_6_B s
  | .BIT_6_C => Sys2Proof.Machine.exec_BIT_6_C s
  | .BIT_6_D => Sys2Proof.Machine.exec_BIT_6_D s
  | .BIT_6_E => Sys2Proof.Machine.exec_BIT_6_E s
  | .BIT_6_H => Sys2Proof.Machine.exec_BIT_6_H s
  | .BIT_6_L => Sys2Proof.Machine.exec_BIT_6_L s
  | .BIT_6_HLm => Sys2Proof.Machine.exec_BIT_6_HLm s
  | .BIT_6_A => Sys2Proof.Machine.exec_BIT_6_A s
  | .BIT_7_B => Sys2Proof.Machine.exec_BIT_7_B s
  | .BIT_7_C => Sys2Proof.Machine.exec_BIT_7_C s
  | .BIT_7_D => Sys2Proof.Machine.exec_BIT_7_D s
  | .BIT_7_E => Sys2Proof.Machine.exec_BIT_7_E s
  | .BIT_7_H => Sys2Proof.Machine.exec_BIT_7_H s
  | .BIT_7_L => Sys2Proof.Machine.exec_BIT_7_L s
  | .BIT_7_HLm => Sys2Proof.Machine.exec_BIT_7_HLm s
  | .BIT_7_A => Sys2Proof.Machine.exec_BIT_7_A s
  | .RES_0_B => Sys2Proof.Machine.exec_RES_0_B s
  | .RES_0_C => Sys2Proof.Machine.exec_RES_0_C s
  | .RES_0_D => Sys2Proof.Machine.exec_RES_0_D s
  | .RES_0_E => Sys2Proof.Machine.exec_RES_0_E s
  | .RES_0_H => Sys2Proof.Machine.exec_RES_0_H s
  | .RES_0_L => Sys2Proof.Machine.exec_RES_0_L s
  | .RES_0_HLm => Sys2Proof.Machine.exec_RES_0_HLm s
  | .RES_0_A => Sys2Proof.Machine.exec_RES_0_A s
  | .RES_1_B => Sys2Proof.Machine.exec_RES_1_B s
  | .RES_1_C => Sys2Proof.Machine.exec_RES_1_C s
  | .RES_1_D => Sys2Proof.Machine.exec_RES_1_D s
  | .RES_1_E => Sys2Proof.Machine.exec_RES_1_E s
  | .RES_1_H => Sys2Proof.Machine.exec_RES_1_H s
  | .RES_1_L => Sys2Proof.Machine.exec_RES_1_L s
  | .RES_1_HLm => Sys2Proof.Machine.exec_RES_1_HLm s
  | .RES_1_A => Sys2Proof.Machine.exec_RES_1_A s
  | .RES_2_B => Sys2Proof.Machine.exec_RES_2_B s
  | .RES_2_C => Sys2Proof.Machine.exec_RES_2_C s
  | .RES_2_D => Sys2Proof.Machine.exec_RES_2_D s
  | .RES_2_E => Sys2Proof.Machine.exec_RES_2_E s
  | .RES_2_H => Sys2Proof.Machine.exec_RES_2_H s
  | .RES_2_L => Sys2Proof.Machine.exec_RES_2_L s
  | .RES_2_HLm => Sys2Proof.Machine.exec_RES_2_HLm s
  | .RES_2_A => Sys2Proof.Machine.exec_RES_2_A s
  | .RES_3_B => Sys2Proof.Machine.exec_RES_3_B s
  | .RES_3_C => Sys2Proof.Machine.exec_RES_3_C s
  | .RES_3_D => Sys2Proof.Machine.exec_RES_3_D s
  | .RES_3_E => Sys2Proof.Machine.exec_RES_3_E s
  | .RES_3_H => Sys2Proof.Machine.exec_RES_3_H s
  | .RES_3_L => Sys2Proof.Machine.exec_RES_3_L s
  | .RES_3_HLm => Sys2Proof.Machine.exec_RES_3_HLm s
  | .RES_3_A => Sys2Proof.Machine.exec_RES_3_A s
  | .RES_4_B => Sys2Proof.Machine.exec_RES_4_B s
  | .RES_4_C => Sys2Proof.Machine.exec_RES_4_C s
  | .RES_4_D => Sys2Proof.Machine.exec_RES_4_D s
  | .RES_4_E => Sys2Proof.Machine.exec_RES_4_E s
  | .RES_4_H => Sys2Proof.Machine.exec_RES_4_H s
  | .RES_4_L => Sys2Proof.Machine.exec_RES_4_L s
  | .RES_4_HLm => Sys2Proof.Machine.exec_RES_4_HLm s
  | .RES_4_A => Sys2Proof.Machine.exec_RES_4_A s
  | .RES_5_B => Sys2Proof.Machine.exec_RES_5_B s
  | .RES_5_C => Sys2Proof.Machine.exec_RES_5_C s
  | .RES_5_D => Sys2Proof.Machine.exec_RES_5_D s
  | .RES_5_E => Sys2Proof.Machine.exec_RES_5_E s
  | .RES_5_H => Sys2Proof.Machine.exec_RES_5_H s
  | .RES_5_L => Sys2Proof.Machine.exec_RES_5_L s
  | .RES_5_HLm => Sys2Proof.Machine.exec_RES_5_HLm s
  | .RES_5_A => Sys2Proof.Machine.exec_RES_5_A s
  | .RES_6_B => Sys2Proof.Machine.exec_RES_6_B s
  | .RES_6_C => Sys2Proof.Machine.exec_RES_6_C s
  | .RES_6_D => Sys2Proof.Machine.exec_RES_6_D s
  | .RES_6_E => Sys2Proof.Machine.exec_RES_6_E s
  | .RES_6_H => Sys2Proof.Machine.exec_RES_6_H s
  | .RES_6_L => Sys2Proof.Machine.exec_RES_6_L s
  | .RES_6_HLm => Sys2Proof.Machine.exec_RES_6_HLm s
  | .RES_6_A => Sys2Proof.Machine.exec_RES_6_A s
  | .RES_7_B => Sys2Proof.Machine.exec_RES_7_B s
  | .RES_7_C => Sys2Proof.Machine.exec_RES_7_C s
  | .RES_7_D => Sys2Proof.Machine.exec_RES_7_D s
  | .RES_7_E => Sys2Proof.Machine.exec_RES_7_E s
  | .RES_7_H => Sys2Proof.Machine.exec_RES_7_H s
  | .RES_7_L => Sys2Proof.Machine.exec_RES_7_L s
  | .RES_7_HLm => Sys2Proof.Machine.exec_RES_7_HLm s
  | .RES_7_A => Sys2Proof.Machine.exec_RES_7_A s
  | .SET_0_B => Sys2Proof.Machine.exec_SET_0_B s
  | .SET_0_C => Sys2Proof.Machine.exec_SET_0_C s
  | .SET_0_D => Sys2Proof.Machine.exec_SET_0_D s
  | .SET_0_E => Sys2Proof.Machine.exec_SET_0_E s
  | .SET_0_H => Sys2Proof.Machine.exec_SET_0_H s
  | .SET_0_L => Sys2Proof.Machine.exec_SET_0_L s
  | .SET_0_HLm => Sys2Proof.Machine.exec_SET_0_HLm s
  | .SET_0_A => Sys2Proof.Machine.exec_SET_0_A s
  | .SET_1_B => Sys2Proof.Machine.exec_SET_1_B s
  | .SET_1_C => Sys2Proof.Machine.exec_SET_1_C s
  | .SET_1_D => Sys2Proof.Machine.exec_SET_1_D s
  | .SET_1_E => Sys2Proof.Machine.exec_SET_1_E s
  | .SET_1_H => Sys2Proof.Machine.exec_SET_1_H s
  | .SET_1_L => Sys2Proof.Machine.exec_SET_1_L s
  | .SET_1_HLm => Sys2Proof.Machine.exec_SET_1_HLm s
  | .SET_1_A => Sys2Proof.Machine.exec_SET_1_A s
  | .SET_2_B => Sys2Proof.Machine.exec_SET_2_B s
  | .SET_2_C => Sys2Proof.Machine.exec_SET_2_C s
  | .SET_2_D => Sys2Proof.Machine.exec_SET_2_D s
  | .SET_2_E => Sys2Proof.Machine.exec_SET_2_E s
  | .SET_2_H => Sys2Proof.Machine.exec_SET_2_H s
  | .SET_2_L => Sys2Proof.Machine.exec_SET_2_L s
  | .SET_2_HLm => Sys2Proof.Machine.exec_SET_2_HLm s
  | .SET_2_A => Sys2Proof.Machine.exec_SET_2_A s
  | .SET_3_B => Sys2Proof.Machine.exec_SET_3_B s
  | .SET_3_C => Sys2Proof.Machine.exec_SET_3_C s
  | .SET_3_D => Sys2Proof.Machine.exec_SET_3_D s
  | .SET_3_E => Sys2Proof.Machine.exec_SET_3_E s
  | .SET_3_H => Sys2Proof.Machine.exec_SET_3_H s
  | .SET_3_L => Sys2Proof.Machine.exec_SET_3_L s
  | .SET_3_HLm => Sys2Proof.Machine.exec_SET_3_HLm s
  | .SET_3_A => Sys2Proof.Machine.exec_SET_3_A s
  | .SET_4_B => Sys2Proof.Machine.exec_SET_4_B s
  | .SET_4_C => Sys2Proof.Machine.exec_SET_4_C s
  | .SET_4_D => Sys2Proof.Machine.exec_SET_4_D s
  | .SET_4_E => Sys2Proof.Machine.exec_SET_4_E s
  | .SET_4_H => Sys2Proof.Machine.exec_SET_4_H s
  | .SET_4_L => Sys2Proof.Machine.exec_SET_4_L s
  | .SET_4_HLm => Sys2Proof.Machine.exec_SET_4_HLm s
  | .SET_4_A => Sys2Proof.Machine.exec_SET_4_A s
  | .SET_5_B => Sys2Proof.Machine.exec_SET_5_B s
  | .SET_5_C => Sys2Proof.Machine.exec_SET_5_C s
  | .SET_5_D => Sys2Proof.Machine.exec_SET_5_D s
  | .SET_5_E => Sys2Proof.Machine.exec_SET_5_E s
  | .SET_5_H => Sys2Proof.Machine.exec_SET_5_H s
  | .SET_5_L => Sys2Proof.Machine.exec_SET_5_L s
  | .SET_5_HLm => Sys2Proof.Machine.exec_SET_5_HLm s
  | .SET_5_A => Sys2Proof.Machine.exec_SET_5_A s
  | .SET_6_B => Sys2Proof.Machine.exec_SET_6_B s
  | .SET_6_C => Sys2Proof.Machine.exec_SET_6_C s
  | .SET_6_D => Sys2Proof.Machine.exec_SET_6_D s
  | .SET_6_E => Sys2Proof.Machine.exec_SET_6_E s
  | .SET_6_H => Sys2Proof.Machine.exec_SET_6_H s
  | .SET_6_L => Sys2Proof.Machine.exec_SET_6_L s
  | .SET_6_HLm => Sys2Proof.Machine.exec_SET_6_HLm s
  | .SET_6_A => Sys2Proof.Machine.exec_SET_6_A s
  | .SET_7_B => Sys2Proof.Machine.exec_SET_7_B s
  | .SET_7_C => Sys2Proof.Machine.exec_SET_7_C s
  | .SET_7_D => Sys2Proof.Machine.exec_SET_7_D s
  | .SET_7_E => Sys2Proof.Machine.exec_SET_7_E s
  | .SET_7_H => Sys2Proof.Machine.exec_SET_7_H s
  | .SET_7_L => Sys2Proof.Machine.exec_SET_7_L s
  | .SET_7_HLm => Sys2Proof.Machine.exec_SET_7_HLm s
  | .SET_7_A => Sys2Proof.Machine.exec_SET_7_A s

end Sys2Proof.Machine
end

