-- ==== Sys2Proof/Machine/Fetch.lean ====
section
/-! DEFINITION. Fetching an instruction (spec/30_encoding.md R61, R62). -/

namespace Sys2Proof.Machine

/-- `decode(here)`: the three bytes at PC, PC + 1, PC + 2, each its own `read8`, the addresses modulo 65536 (R61, R62, D9). -/
def State.fetch (s : State) : Instr :=
  decode (s.read8 .fetch0 s.pc) (s.read8 .fetch1 (s.pc + 1)) (s.read8 .fetch2 (s.pc + 2))

end Sys2Proof.Machine
end

