-- ==== Sys2Proof/Machine/Step.lean ====
section
/-! DEFINITION. The step (spec/10_state.md R19, R20) and the word the host places for it to fetch. -/

namespace Sys2Proof.Machine

/-- One `step` request: nothing when halted; else decode at PC, execute, and advance PC unless the instruction branched (R19; the advance
is part of each meaning). `State.tick` is the identity but for `CART_RAM` absent, where it makes the data reads fresh draws (R34). -/
def step (s : State) : Host.Outcome State Fault Refusal :=
  if s.halted then .next s else exec s.fetch s.tick

/-- `s` with an instruction of the opcode table stored where the step fetches next (notes/assumptions/6.md). -/
def State.withFetchWord (s : State) (nbits w : Nat) : State := s.readyToFetch.placeInstr (tableWordBytes nbits w)

end Sys2Proof.Machine
end

