-- ==== Sys2Proof/Machine/Effects.lean ====
section
/-! DEFINITION. Tables of what each instruction may change, as the spec's prose and its summary tables give them (R13, R15, R18, R19, R48, R200,
R244). The meanings do not use them: claims compare them with the meanings. -/

namespace Sys2Proof

/-- One cell of the flag table R18: `-`, `0`, `1`, `*`. -/
inductive FlagCell where
  | unaffected
  | zero
  | one
  | result
  deriving DecidableEq, Repr

/-- One row of the flag table R18. -/
structure FlagRow where
  z : FlagCell
  n : FlagCell
  h : FlagCell
  c : FlagCell
  deriving DecidableEq, Repr

/-- The column of a flag. -/
def FlagRow.cell (r : FlagRow) : Flag → FlagCell
  | .Z => r.z
  | .N => r.n
  | .H => r.h
  | .C => r.c

/-- The row of R18 for the eight operations of table `alu`. -/
def AluOp.flagRow : AluOp → FlagRow
  | .ADD | .ADC => ⟨.result, .zero, .result, .result⟩
  | .SUB | .SBC | .CP => ⟨.result, .one, .result, .result⟩
  | .AND => ⟨.result, .zero, .one, .zero⟩
  | .OR | .XOR => ⟨.result, .zero, .zero, .zero⟩

/-- The row of R18 for the eight operations of table `rot`. -/
def RotOp.flagRow : RotOp → FlagRow
  | .RLC | .RRC | .RL | .RR | .SLA | .SRA | .SRL => ⟨.result, .zero, .zero, .result⟩
  | .SWAP => ⟨.result, .zero, .zero, .zero⟩

/-- A row of R18 without an effect. -/
def FlagRow.none : FlagRow := ⟨.unaffected, .unaffected, .unaffected, .unaffected⟩

/-- The flag table of R18; LDHL under `LDHL_FLAGS = unaffected` writes none (R124, D18). -/
def Variant.flagRow (p : Params) : Variant → FlagRow
  | .ALU_s op _ | .ALU_d8 op _ => op.flagRow
  | .INC_s _ => ⟨.result, .zero, .result, .unaffected⟩
  | .DEC_s _ => ⟨.result, .one, .result, .unaffected⟩
  | .ADD_HL_rr _ => ⟨.unaffected, .zero, .result, .result⟩
  | .ADD_SP_e8 _ => ⟨.zero, .zero, .result, .result⟩
  | .LDHL_SP_e8 _ => if p.ldhlFlags = .hardware then ⟨.zero, .zero, .result, .result⟩ else FlagRow.none
  | .RLCA | .RLA | .RRCA | .RRA => ⟨.unaffected, .zero, .zero, .result⟩
  | .ROT_s op _ => op.flagRow
  | .BIT_b_s _ _ => ⟨.result, .zero, .one, .unaffected⟩
  | .CPL => ⟨.unaffected, .one, .one, .unaffected⟩
  | .SCF => ⟨.unaffected, .zero, .zero, .one⟩
  | .CCF => ⟨.unaffected, .zero, .zero, .result⟩
  | .DAA => ⟨.result, .unaffected, .zero, .result⟩
  | .POP_AF => ⟨.result, .result, .result, .result⟩
  | .LD_r_r _ _ | .LD_r_d8 _ _ | .LD_r_HLm _ | .LD_HLm_r _ | .LD_HLm_d8 _ | .LD_A_BC | .LD_A_DE | .LD_BC_A | .LD_DE_A | .LD_A_a16 _
  | .LD_a16_A _ | .LDH_A_C | .LDH_C_A | .LDH_A_a8 _ | .LDH_a8_A _ | .LDI_A_HL | .LDI_HL_A | .LDD_A_HL | .LDD_HL_A | .LD_rr_d16 _ _
  | .LD_a16_SP _ | .LD_SP_HL | .PUSH_rr _ | .POP_rr _ | .INC_rr _ | .DEC_rr _ | .RES_b_s _ _ | .SET_b_s _ _ | .JP_a16 _
  | .JP_cc_a16 _ _ | .JP_HL | .JR_e8 _ | .JR_cc_e8 _ _ | .CALL_a16 _ | .CALL_cc_a16 _ _ | .RET | .RET_cc _ | .RETI | .RST _ | .NOP
  | .STOP | .HALT | .DI | .EI | .ILLEGAL _ => FlagRow.none

/-- The two byte registers of a pair, none for SP and PC (R12). -/
def Reg16.halves : Reg16 → List Reg8
  | .AF => [.A, .F]
  | .BC => [.B, .C]
  | .DE => [.D, .E]
  | .HL => [.H, .L]
  | .SP | .PC => []

/-- The byte register an operand location names, if it is one (R64). -/
def Loc8.regs : Loc8 → List Reg8
  | .reg r => [r]
  | .HLm => []

/-- The destination byte registers of each instruction; F is the flag table's, but for POP AF (R127). -/
def Variant.regsWritten : Variant → List Reg8
  | .LD_r_r rd _ => [rd]
  | .LD_r_d8 r _ | .LD_r_HLm r => [r]
  | .LD_A_BC | .LD_A_DE | .LD_A_a16 _ | .LDH_A_C | .LDH_A_a8 _ => [.A]
  | .LDI_A_HL | .LDD_A_HL => [.A, .H, .L]
  | .LDI_HL_A | .LDD_HL_A | .LDHL_SP_e8 _ | .ADD_HL_rr _ => [.H, .L]
  | .LD_rr_d16 rr _ | .POP_rr rr | .INC_rr rr | .DEC_rr rr => rr.halves
  | .POP_AF => [.A, .F]
  | .ALU_s op _ | .ALU_d8 op _ => if op = .CP then [] else [.A]
  | .DAA | .CPL | .RLCA | .RLA | .RRCA | .RRA => [.A]
  | .INC_s x | .DEC_s x | .ROT_s _ x | .RES_b_s _ x | .SET_b_s _ x => x.regs
  | .LD_HLm_r _ | .LD_HLm_d8 _ | .LD_BC_A | .LD_DE_A | .LD_a16_A _ | .LDH_C_A | .LDH_a8_A _ | .LD_a16_SP _ | .LD_SP_HL | .PUSH_rr _
  | .SCF | .CCF | .ADD_SP_e8 _ | .BIT_b_s _ _ | .JP_a16 _ | .JP_cc_a16 _ _ | .JP_HL | .JR_e8 _ | .JR_cc_e8 _ _ | .CALL_a16 _
  | .CALL_cc_a16 _ _ | .RET | .RET_cc _ | .RETI | .RST _ | .NOP | .STOP | .HALT | .DI | .EI | .ILLEGAL _ => []

/-- The instructions that write SP: "LD SP,d16, LD SP,HL, INC SP, DEC SP, ADD SP,e8, and … every push and pop (PUSH, POP, CALL, RST, RET,
RETI)" (R13). -/
def Variant.mayWriteSP : Variant → Bool
  | .LD_rr_d16 rr _ | .INC_rr rr | .DEC_rr rr => rr = .SP
  | .LD_SP_HL | .ADD_SP_e8 _ => true
  | .PUSH_rr _ | .POP_rr _ | .POP_AF | .CALL_a16 _ | .CALL_cc_a16 _ _ | .RST _ | .RET | .RET_cc _ | .RETI => true
  | .LD_r_r _ _ | .LD_r_d8 _ _ | .LD_r_HLm _ | .LD_HLm_r _ | .LD_HLm_d8 _ | .LD_A_BC | .LD_A_DE | .LD_BC_A | .LD_DE_A | .LD_A_a16 _
  | .LD_a16_A _ | .LDH_A_C | .LDH_C_A | .LDH_A_a8 _ | .LDH_a8_A _ | .LDI_A_HL | .LDI_HL_A | .LDD_A_HL | .LDD_HL_A | .LD_a16_SP _
  | .LDHL_SP_e8 _ | .ALU_s _ _ | .ALU_d8 _ _ | .INC_s _ | .DEC_s _ | .DAA | .CPL | .SCF | .CCF | .ADD_HL_rr _ | .RLCA | .RLA
  | .RRCA | .RRA | .ROT_s _ _ | .BIT_b_s _ _ | .RES_b_s _ _ | .SET_b_s _ _ | .JP_a16 _ | .JP_cc_a16 _ _ | .JP_HL | .JR_e8 _
  | .JR_cc_e8 _ _ | .NOP | .STOP | .HALT | .DI | .EI | .ILLEGAL _ => false

/-- The instructions that "can report `branched`": exactly JP, JP cc, JP (HL), JR, JR cc, CALL, CALL cc, RET, RET cc, RETI and RST (R19). -/
def Variant.mayBranch : Variant → Bool
  | .JP_a16 _ | .JP_cc_a16 _ _ | .JP_HL | .JR_e8 _ | .JR_cc_e8 _ _ | .CALL_a16 _ | .CALL_cc_a16 _ _ | .RET | .RET_cc _ | .RETI
  | .RST _ => true
  | .LD_r_r _ _ | .LD_r_d8 _ _ | .LD_r_HLm _ | .LD_HLm_r _ | .LD_HLm_d8 _ | .LD_A_BC | .LD_A_DE | .LD_BC_A | .LD_DE_A | .LD_A_a16 _
  | .LD_a16_A _ | .LDH_A_C | .LDH_C_A | .LDH_A_a8 _ | .LDH_a8_A _ | .LDI_A_HL | .LDI_HL_A | .LDD_A_HL | .LDD_HL_A | .LD_rr_d16 _ _
  | .LD_a16_SP _ | .LD_SP_HL | .LDHL_SP_e8 _ | .PUSH_rr _ | .POP_rr _ | .POP_AF | .ALU_s _ _ | .ALU_d8 _ _ | .INC_s _ | .DEC_s _
  | .DAA | .CPL | .SCF | .CCF | .ADD_HL_rr _ | .ADD_SP_e8 _ | .INC_rr _ | .DEC_rr _ | .RLCA | .RLA | .RRCA | .RRA | .ROT_s _ _
  | .BIT_b_s _ _ | .RES_b_s _ _ | .SET_b_s _ _ | .NOP | .STOP | .HALT | .DI | .EI | .ILLEGAL _ => false

/-- The condition of a conditional form (R200). -/
def Variant.cond? : Variant → Option Cond
  | .JP_cc_a16 cc _ | .JR_cc_e8 cc _ | .CALL_cc_a16 cc _ | .RET_cc cc => some cc
  | .LD_r_r _ _ | .LD_r_d8 _ _ | .LD_r_HLm _ | .LD_HLm_r _ | .LD_HLm_d8 _ | .LD_A_BC | .LD_A_DE | .LD_BC_A | .LD_DE_A | .LD_A_a16 _
  | .LD_a16_A _ | .LDH_A_C | .LDH_C_A | .LDH_A_a8 _ | .LDH_a8_A _ | .LDI_A_HL | .LDI_HL_A | .LDD_A_HL | .LDD_HL_A | .LD_rr_d16 _ _
  | .LD_a16_SP _ | .LD_SP_HL | .LDHL_SP_e8 _ | .PUSH_rr _ | .POP_rr _ | .POP_AF | .ALU_s _ _ | .ALU_d8 _ _ | .INC_s _ | .DEC_s _
  | .DAA | .CPL | .SCF | .CCF | .ADD_HL_rr _ | .ADD_SP_e8 _ | .INC_rr _ | .DEC_rr _ | .RLCA | .RLA | .RRCA | .RRA | .ROT_s _ _
  | .BIT_b_s _ _ | .RES_b_s _ _ | .SET_b_s _ _ | .JP_a16 _ | .JP_HL | .JR_e8 _ | .CALL_a16 _ | .RET | .RETI | .RST _ | .NOP | .STOP
  | .HALT | .DI | .EI | .ILLEGAL _ => none

/-- The table of R244: the command an instruction issues. -/
def Variant.portCommand : Variant → Option Machine.PortCommand
  | .EI | .RETI => some .intEnable
  | .DI => some .intDisable
  | .LD_r_r _ _ | .LD_r_d8 _ _ | .LD_r_HLm _ | .LD_HLm_r _ | .LD_HLm_d8 _ | .LD_A_BC | .LD_A_DE | .LD_BC_A | .LD_DE_A | .LD_A_a16 _
  | .LD_a16_A _ | .LDH_A_C | .LDH_C_A | .LDH_A_a8 _ | .LDH_a8_A _ | .LDI_A_HL | .LDI_HL_A | .LDD_A_HL | .LDD_HL_A | .LD_rr_d16 _ _
  | .LD_a16_SP _ | .LD_SP_HL | .LDHL_SP_e8 _ | .PUSH_rr _ | .POP_rr _ | .POP_AF | .ALU_s _ _ | .ALU_d8 _ _ | .INC_s _ | .DEC_s _
  | .DAA | .CPL | .SCF | .CCF | .ADD_HL_rr _ | .ADD_SP_e8 _ | .INC_rr _ | .DEC_rr _ | .RLCA | .RLA | .RRCA | .RRA | .ROT_s _ _
  | .BIT_b_s _ _ | .RES_b_s _ _ | .SET_b_s _ _ | .JP_a16 _ | .JP_cc_a16 _ _ | .JP_HL | .JR_e8 _ | .JR_cc_e8 _ _ | .CALL_a16 _
  | .CALL_cc_a16 _ _ | .RET | .RET_cc _ | .RST _ | .NOP | .STOP | .HALT | .ILLEGAL _ => none

namespace Machine

/-- The mirror bit after a command, or after none (R243, R244). -/
def PortCommand.mirror (old : Bool) : Option PortCommand → Bool
  | some .intEnable => true
  | some .intDisable => false
  | none => old

/-- Does the instruction branch in this state: the unconditional transfers always, the conditional ones when the condition holds (R19,
R200). -/
def State.branches (s : State) (v : Variant) : Bool :=
  v.mayBranch && match v.cond? with
    | some cc => s.holds cc
    | none => true

/-- The target of a transfer that is taken (R201 to R211). -/
def State.target (s : State) : Variant → Word
  | .JP_a16 a | .JP_cc_a16 _ a | .CALL_a16 a | .CALL_cc_a16 _ a => a
  | .JP_HL => s.hl
  | .JR_e8 e | .JR_cc_e8 _ e => s.relTarget e
  | .RET | .RET_cc _ | .RETI => s.popWord
  | .RST t => zext16 t
  | .LD_r_r _ _ | .LD_r_d8 _ _ | .LD_r_HLm _ | .LD_HLm_r _ | .LD_HLm_d8 _ | .LD_A_BC | .LD_A_DE | .LD_BC_A | .LD_DE_A | .LD_A_a16 _
  | .LD_a16_A _ | .LDH_A_C | .LDH_C_A | .LDH_A_a8 _ | .LDH_a8_A _ | .LDI_A_HL | .LDI_HL_A | .LDD_A_HL | .LDD_HL_A | .LD_rr_d16 _ _
  | .LD_a16_SP _ | .LD_SP_HL | .LDHL_SP_e8 _ | .PUSH_rr _ | .POP_rr _ | .POP_AF | .ALU_s _ _ | .ALU_d8 _ _ | .INC_s _ | .DEC_s _
  | .DAA | .CPL | .SCF | .CCF | .ADD_HL_rr _ | .ADD_SP_e8 _ | .INC_rr _ | .DEC_rr _ | .RLCA | .RLA | .RRCA | .RRA | .ROT_s _ _
  | .BIT_b_s _ _ | .RES_b_s _ _ | .SET_b_s _ _ | .NOP | .STOP | .HALT | .DI | .EI | .ILLEGAL _ => s.pc

/-- The addresses of the bytes of a word access at `a` (R43 to R45). -/
def State.wordAddrs (s : State) (a : Word) : List Word := a :: (s.highAddr? a).toList

/-- The address of the memory byte an operand location names, if it is one (R64). -/
def State.locAddrs (s : State) : Loc8 → List Word
  | .reg _ => []
  | .HLm => [s.hl]

/-- The addresses of the bytes an instruction stores to (R48): computed from the state it starts in. -/
def State.storeAddrs (s : State) : Variant → List Word
  | .LD_HLm_r _ | .LD_HLm_d8 _ | .LDI_HL_A | .LDD_HL_A => [s.hl]
  | .LD_BC_A => [s.get16 .BC]
  | .LD_DE_A => [s.get16 .DE]
  | .LD_a16_A a => [a]
  | .LDH_C_A => [highPage s.c]
  | .LDH_a8_A o => [highPage o]
  | .LD_a16_SP a => s.wordAddrs a
  | .INC_s x | .DEC_s x | .ROT_s _ x | .RES_b_s _ x | .SET_b_s _ x => s.locAddrs x
  | .PUSH_rr _ | .CALL_a16 _ | .RST _ => s.wordAddrs (s.sp - 2)
  | .CALL_cc_a16 cc _ => if s.holds cc then s.wordAddrs (s.sp - 2) else []
  | .LD_r_r _ _ | .LD_r_d8 _ _ | .LD_r_HLm _ | .LD_A_BC | .LD_A_DE | .LD_A_a16 _ | .LDH_A_C | .LDH_A_a8 _ | .LDI_A_HL | .LDD_A_HL
  | .LD_rr_d16 _ _ | .LD_SP_HL | .LDHL_SP_e8 _ | .POP_rr _ | .POP_AF | .ALU_s _ _ | .ALU_d8 _ _ | .DAA | .CPL | .SCF | .CCF
  | .ADD_HL_rr _ | .ADD_SP_e8 _ | .INC_rr _ | .DEC_rr _ | .RLCA | .RLA | .RRCA | .RRA | .BIT_b_s _ _ | .JP_a16 _ | .JP_cc_a16 _ _
  | .JP_HL | .JR_e8 _ | .JR_cc_e8 _ _ | .RET | .RET_cc _ | .RETI | .NOP | .STOP | .HALT | .DI | .EI | .ILLEGAL _ => []

end Machine

end Sys2Proof
end

