-- ==== Sys2Proof/Safety.lean ====
section
/-! DEFINITION. What a good state is, what the outside world can do between steps (spec/70_reset_and_hazards.md R266), and what a safe run is:
one that never stops (R20, R240). -/

namespace Sys2Proof.Machine

/-- Nothing is listed in 0xA000 to 0xBFFF: with `CART_RAM` absent there is no cell there (R34). -/
abbrev Memory.noCartRam (m : Memory) : Prop := ∀ c ∈ m, ¬ (0xA000 ≤ c.1 ∧ c.1 ≤ 0xBFFF)

/-- The invariant of the machine: "F's low 4 bits are always zero" (R11), memory is in its canonical form, an absent cartridge RAM has
no cells (R34), and `ime` is "1 after the last command was an enable, 0 after a disable" (R243). -/
abbrev State.Inv (s : State) : Prop :=
  s.f &&& 0x0F = 0x00 ∧ s.mem.wf = true ∧ (s.params.cartRam = .absent → s.mem.noCartRam) ∧
    ∀ c ∈ s.commands.getLast?, s.ime = c.enables

/-- What happens at the block from outside, one event at a time: the driving loop requests a step; between two steps the interrupt
controller asserts `wake` or observes `ime` and the commands on its port (R5, R245, R266). -/
inductive HostInput where
  | step
  | wake
  | observePort
  deriving DecidableEq, Repr

/-- The effect of one event (R266, column "effect"). -/
def act : HostInput → State → Outcome
  | .step, s => step s
  | .wake, s => .next s.wake
  | .observePort, s => .next s

/-- What the block returns for an event. -/
inductive Returned where
  | nothing
  /-- The `decode_failure(here, opcode)` report of R225, under `ILLEGAL_POLICY = fault`. -/
  | decodeFailure (here : Word) (opcode : Byte)
  /-- The mirror bit and the command stream of R244, oldest command first. -/
  | port (ime : Bool) (commands : List PortCommand)
  deriving DecidableEq, Repr

/-- What one event returns (R266, column "what the block returns"). -/
def returned : HostInput → State → Returned
  | .step, s =>
    match step s with
    | .fault (.decodeFailure here opcode) => .decodeFailure here opcode
    | .next _ | .refused _ => .nothing
  | .wake, _ => .nothing
  | .observePort, s => .port s.ime s.commands

/-- A sequence of events, up to the first stop. -/
def acts : List HostInput → State → Outcome
  | [], s => .next s
  | i :: rest, s =>
    match act i s with
    | .next t => acts rest t
    | .fault r => .fault r
    | .refused r => .refused r

/-- What a sequence of events returns, event by event, up to the first stop. -/
def allReturned : List HostInput → State → List Returned
  | [], _ => []
  | i :: rest, s =>
    returned i s :: match act i s with
      | .next t => allReturned rest t
      | .fault _ | .refused _ => []

/-- Legal arguments of power-on: memory in its canonical form, launch registers with a clean F, no cells in an absent cartridge RAM (R21,
R260, D4, D5). -/
abbrev LegalPowerOn (p : Params) (mem : Memory) (r : Launch) : Prop :=
  mem.wf = true ∧ r.wellFormed = true ∧ (p.cartRam = .absent → mem.noCartRam)

/-- The states some session reaches: from any legal power-on, by any events. -/
inductive Reachable : State → Prop where
  | powerOn (p : Params) (mem : Memory) (r : Launch) : LegalPowerOn p mem r → Reachable (State.powerOn p mem r)
  | act (i : HostInput) (s t : State) : Reachable s → act i s = .next t → Reachable t

/-- A safe run: whatever the events, the machine never stops (R20 "No step fails"). -/
def SafeRun (s : State) : Prop := ∀ inputs : List HostInput, ∃ t, acts inputs s = .next t

end Sys2Proof.Machine
end

