-- ==== Sys2Proof/Certificates/Slice0/Obligations.lean ====
section
/-! DEFINITION. The statements for the provers. Instructions are named by their variant (R74): `i.variant = v` ranges over every row of the
opcode table that `v` stands for, so no row of a shape is left out. A statement about the result of an instruction says that `exec`
ANSWERS the next state the rule gives, and with it that nothing else changes. -/

namespace Sys2Proof.Claims

open Sys2Proof.Machine

/-- Z, N, H, C. -/
def flags (s : State) : Bool × Bool × Bool × Bool := (s.flag .Z, s.flag .N, s.flag .H, s.flag .C)

/-- `s` after an instruction that writes flags and nothing else of F: its four flags, and the low nibble of F as it was. -/
def FlagsBecome (s t : State) (z n h c : Bool) : Prop := flags t = (z, n, h, c) ∧ t.f &&& 0x0F = s.f &&& 0x0F

/-- The code of a byte register in table `r` (R64). F has none; no row of the table names it. -/
def regCode (r : Reg8) : BitVec 3 := r.code?.getD 6

/-- The code of an operand location in table `r` (R64). -/
def locCode (x : Loc8) : BitVec 3 := x.code?.getD 6

/-- The code of a pair in table `rp` (R65). AF and PC have none. -/
def rpCode (rr : Reg16) : BitVec 2 := rr.rpCode?.getD 3

/-- The code of a pair in table `rp2` (R65). SP and PC have none. -/
def rp2Code (rr : Reg16) : BitVec 2 := rr.rp2Code?.getD 3

/-- A number for a carry. -/
def num (b : Bool) : Nat := if b then 1 else 0

/-- `i` is a form of the ALU operation `op`, its operand has the value `v` and its length is `n` (R132). -/
def AluForm (op : AluOp) (i : Instr) (s : State) (v : Byte) (n : Nat) : Prop :=
  (∃ x, i.variant = .ALU_s op x ∧ v = s.readLoc x ∧ n = 1) ∨ (i.variant = .ALU_d8 op v ∧ n = 2)

/-- The encodings of the forms of an ALU operation of code `ooo` (R132). -/
def AluEncoding (op : AluOp) (ooo : BitVec 3) : Prop :=
  ∀ i : Instr, (∀ x, i.variant = .ALU_s op x → encode i = [byteXYZ 0b10 ooo (locCode x)]) ∧
    (∀ d, i.variant = .ALU_d8 op d → encode i = [byteXYZ 0b11 ooo 0b110, d])

/-- Two-digit packed decimal. -/
def bcd (n : Nat) : Byte := BitVec.ofNat 8 (n / 10 % 10 * 16 + n % 10)

/-- The instructions that read a flag: "ADC and SBC …, RLA, RRA, RL, RR …, CCF …, DAA …, the conditional JP, JR, CALL, RET …, and PUSH AF"
(R18). -/
def readsFlags : Variant → Bool
  | .ALU_s op _ | .ALU_d8 op _ => op = .ADC ∨ op = .SBC
  | .ROT_s op _ => op = .RL ∨ op = .RR
  | .RLA | .RRA | .CCF | .DAA => true
  | .JP_cc_a16 _ _ | .JR_cc_e8 _ _ | .CALL_cc_a16 _ _ | .RET_cc _ => true
  | .PUSH_rr rr => rr = .AF
  | .LD_r_r _ _ | .LD_r_d8 _ _ | .LD_r_HLm _ | .LD_HLm_r _ | .LD_HLm_d8 _ | .LD_A_BC | .LD_A_DE | .LD_BC_A | .LD_DE_A | .LD_A_a16 _
  | .LD_a16_A _ | .LDH_A_C | .LDH_C_A | .LDH_A_a8 _ | .LDH_a8_A _ | .LDI_A_HL | .LDI_HL_A | .LDD_A_HL | .LDD_HL_A | .LD_rr_d16 _ _
  | .LD_a16_SP _ | .LD_SP_HL | .LDHL_SP_e8 _ | .POP_rr _ | .POP_AF | .INC_s _ | .DEC_s _ | .CPL | .SCF | .ADD_HL_rr _
  | .ADD_SP_e8 _ | .INC_rr _ | .DEC_rr _ | .RLCA | .RRCA | .BIT_b_s _ _ | .RES_b_s _ _ | .SET_b_s _ _ | .JP_a16 _ | .JP_HL
  | .JR_e8 _ | .CALL_a16 _ | .RET | .RETI | .RST _ | .NOP | .STOP | .HALT | .DI | .EI | .ILLEGAL _ => false

/-- The four conditions, each on one flag (R66, R200). -/
def condTrue (s : State) : Cond → Bool
  | .NZ => !s.f.getLsbD 7
  | .Z => s.f.getLsbD 7
  | .NC => !s.f.getLsbD 4
  | .C => s.f.getLsbD 4

/-- The two bytes of the word at `a` are two read/write cells (R47): not the word at 0xFFFF, and neither byte discarded. -/
def WordStored (s : State) (a : Word) : Prop := a ≠ 0xFFFF ∧ s.writable a = true ∧ s.writable (a + 1) = true

end Sys2Proof.Claims

open Sys2Proof Sys2Proof.Machine Sys2Proof.Claims

/-! ## Encoding -/

/-- R79: every encoding fact the source gives. -/
def Obligations.SourceEncodingFactsHold : Prop :=
  ∀ b1 b2 : Byte,
    decode 0x3C b1 b2 = .INC_A ∧
    (decode 0xCD b1 b2 = .CALL_a16 (cat b2 b1) ∧ (decode 0xCD b1 b2).size Params.default = 3) ∧
    decode 0x76 b1 b2 = .HALT ∧
    decode 0xCB 0x40 b2 = .BIT_0_B ∧
    (decode 0xCB b1 b2 = decodeCB b1 ∧ (decode 0xCB b1 b2).size Params.default = 2 ∧
      ∃ x, tableR[(fieldZ b1).toNat]? = some x ∧
        ((∃ op, (decodeCB b1).variant = .ROT_s op x) ∨ (∃ b, (decodeCB b1).variant = .BIT_b_s b x) ∨
          (∃ b, (decodeCB b1).variant = .RES_b_s b x) ∨ ∃ b, (decodeCB b1).variant = .SET_b_s b x)) ∧
    ∀ b0 : Byte,
      ((∃ op, (decode b0 b1 b2).variant = .ILLEGAL op) ↔
        b0 ∈ ([0xD3, 0xDB, 0xDD, 0xE3, 0xE4, 0xEB, 0xEC, 0xED, 0xF4, 0xFC, 0xFD] : List Byte)) ∧
      (decode b0 b1 b2).size Params.default ∈ [1, 2, 3]

/-- Decoding the encoding of any instruction gives it back, with every operand, and leaves the bytes after it. -/
def Obligations.DecodeOfEncodeIsIdentity : Prop := ∀ (i : Instr) (rest : List Byte), decodeBytes (encode i ++ rest) = .ok (i, rest)

/-- An instruction uses exactly the bytes its size counts (R75): they are its encoding, and the bytes after them are not looked at. The size
is the one with `STOP_LENGTH` at its default: the byte STOP skips under 2 (R73, R221) is no part of its encoding, which is the model's reading
(notes/assumptions/8.md, DEDUCED). -/
def Obligations.DecoderUsesExactlyItsBytes : Prop :=
  ∀ b0 b1 b2 : Byte,
    encode (decode b0 b1 b2) = [b0, b1, b2].take (decode b0 b1 b2).encodedLength ∧
    (∀ c2, (decode b0 b1 b2).encodedLength ≤ 2 → decode b0 b1 c2 = decode b0 b1 b2) ∧
    (∀ c1 c2, (decode b0 b1 b2).encodedLength ≤ 1 → decode b0 c1 c2 = decode b0 b1 b2)

/-- R70, R71: the tables by fields yield the two grids entry for entry. -/
def Obligations.FieldTablesAgreeWithGrids : Prop := ∀ b0 b1 b2 : Byte, (decode b0 b1 b2).variant = decodeFields b0 b1 b2

/-- R74, R78: the well-formed variants are exactly the rows of the opcode table, one row each. -/
def Obligations.VariantsAndRowsCorrespond : Prop := ∀ v : Variant, v.wellFormed = true ↔ ∃! i : Instr, i.variant = v

/-! ## The step -/

/-- A running step executes the instruction that the bytes at PC encode; around it the step only renews the free bytes of an absent
cartridge RAM (R19, R61, R62). -/
def Obligations.StepRunsTheDecodedInstruction : Prop :=
  ∀ (s : State) (i : Instr) (rest : List Byte),
    s.halted = false →
    decodeBytes [s.read8 .fetch0 s.pc, s.read8 .fetch1 (s.pc + 1), s.read8 .fetch2 (s.pc + 2)] = .ok (i, rest) →
    step s = exec i s.tick ∧ (s.params.cartRam = .present → s.tick = s) ∧ s.tick = { s with draws := s.tick.draws }

/-- R19: a halted step changes nothing; else the instruction at PC is decoded and executed, and PC then holds the target when it branched,
`here +16 len` when it did not; only the control transfers branch, the conditional ones when their condition holds. That the instruction executes in `s.tick`, the state with
the model's draw counter advanced when `CART_RAM` is absent, is the model's choice (notes/assumptions/4.md). -/
def Obligations.StepFollowsTheProtocol : Prop :=
  ∀ s : State,
    (s.halted = true → step s = .next s) ∧
    (s.halted = false → step s = exec s.fetch s.tick) ∧
    ∀ (i : Instr) (t : State), exec i s = .next t →
      t.pc = if s.branches i.variant = true then s.target i.variant else s.pc + BitVec.ofNat 16 (i.size s.params)

/-- R20: no step fails. The one report a step can make is that of `ILLEGAL_POLICY = fault` (R225), at one of the eleven bytes. -/
def Obligations.StepIsTotal : Prop :=
  ∀ s : State,
    (s.halted = true → step s = .next s) ∧
    (s.params.illegalPolicy = .nop → ∃ t, step s = .next t) ∧
    ((∃ t, step s = .next t) ∨
      (s.params.illegalPolicy = .fault ∧ s.halted = false ∧ s.read8 .fetch0 s.pc ∈ illegalBytes ∧
        step s = .fault (.decodeFailure s.pc (s.read8 .fetch0 s.pc))))

/-- Under the default policy no run stops, whatever events come from outside (R5, R20, R240, R245). -/
def Obligations.RunsNeverStopUnderTheDefaultPolicy : Prop := ∀ s : State, s.params.illegalPolicy = .nop → SafeRun s

/-- No step writes a parameter (R4) or a byte of ROM (R33). -/
def Obligations.RomAndParametersAreNeverWritten : Prop :=
  ∀ s t : State, step s = .next t →
    t.params = s.params ∧ ∀ (slot : ReadSlot) (a : Word), a.toNat ≤ 0x7FFF → t.read8 slot a = s.read8 slot a

/-- Every step keeps the invariant: F's low nibble is zero (R11), memory is in its canonical form, an absent cartridge RAM has no cells, and
`ime` is what the last command on the port made it (R243). -/
def Obligations.StepKeepsTheInvariant : Prop := ∀ s t : State, s.Inv → step s = .next t → t.Inv

/-- The invariant holds at reset. -/
def Obligations.ResetHasTheInvariant : Prop := State.reset.Inv

/-- Every state a session reaches from a legal power-on, by the events of R266, has the invariant (R11, R243, R260, R266). -/
def Obligations.ReachableStatesHaveTheInvariant : Prop := ∀ s : State, Reachable s → s.Inv

/-- R21: the reset values. Registers, `halted` and `ime` are zero; every byte of the arrays reads 0x00 (`MEM_INIT` at its default) and every
parameter is at its default; `ROM` and, for a launch, the registers and the contents of memory are as supplied. No command has been issued: the stream is the model's form of the port's output
(notes/assumptions/13.md). -/
def Obligations.ResetValuesAreAsStated : Prop :=
  (State.reset = State.powerOn Params.default [] {} ∧ State.reset.params = {}) ∧
  (∀ r : Reg8, State.reset.get8 r = 0x00) ∧ (∀ fl : Flag, State.reset.flag fl = false) ∧
  State.reset.sp = 0x0000 ∧ State.reset.pc = 0x0000 ∧ State.reset.halted = false ∧ State.reset.ime = false ∧ State.reset.commands = [] ∧
  (∀ (slot : ReadSlot) (a : Word), region a ≠ .rom → State.reset.read8 slot a = 0x00) ∧
  ∀ (p : Params) (mem : Memory) (r : Launch),
    (∀ (slot : ReadSlot) (a : Word), a.toNat ≤ 0x7FFF → (State.powerOn p mem r).read8 slot a = mem.get a.toNat) ∧
    (State.powerOn p mem r).mem = mem ∧ (State.powerOn p mem r).params = p ∧
    (State.powerOn p mem r).a = r.a ∧ (State.powerOn p mem r).f = r.f ∧ (State.powerOn p mem r).b = r.b ∧
    (State.powerOn p mem r).c = r.c ∧ (State.powerOn p mem r).d = r.d ∧ (State.powerOn p mem r).e = r.e ∧
    (State.powerOn p mem r).h = r.h ∧ (State.powerOn p mem r).l = r.l ∧ (State.powerOn p mem r).sp = r.sp ∧
    (State.powerOn p mem r).pc = r.pc ∧ (State.powerOn p mem r).halted = r.halted ∧ (State.powerOn p mem r).ime = r.ime ∧
    (State.powerOn p mem r).commands = []

/-! ## Frames over all instructions -/

/-- The flag table of R18, cell by cell, for every instruction: unaffected, 0, 1, or from the result. An instruction whose row is all `-`
leaves F whole, and every other but POP AF leaves its low nibble. -/
def Obligations.FlagTableHolds : Prop :=
  ∀ (i : Instr) (s t : State), exec i s = .next t →
    (∀ fl : Flag,
      ((i.variant.flagRow s.params).cell fl = .unaffected → t.flag fl = s.flag fl) ∧
      ((i.variant.flagRow s.params).cell fl = .zero → t.flag fl = false) ∧
      ((i.variant.flagRow s.params).cell fl = .one → t.flag fl = true)) ∧
    ((∀ fl : Flag, (i.variant.flagRow s.params).cell fl = .unaffected) → t.f = s.f) ∧
    (i.variant ≠ .POP_AF → t.f &&& 0x0F = s.f &&& 0x0F)

/-- The flags are read only by the instructions R18 lists: for every other, from the same state with any other F, nothing but F comes out
different, and of F no flag that the instruction writes (a cell of R18's table that is not `-`). -/
def Obligations.FlagsAreReadOnlyWhereListed : Prop :=
  ∀ (i : Instr) (s t : State) (f : Byte), readsFlags i.variant = false → exec i s = .next t →
    ∃ u, exec i { s with f := f } = .next u ∧ u = { t with f := u.f } ∧
      ∀ fl : Flag, (i.variant.flagRow s.params).cell fl ≠ .unaffected → u.flag fl = t.flag fl

/-- An instruction changes no byte register but its destinations, SP only where R13 says, and never a parameter or the draw counter. -/
def Obligations.RegistersOutsideTheDestinationAreKept : Prop :=
  ∀ (i : Instr) (s t : State), exec i s = .next t →
    (∀ r : Reg8, r ≠ .F → r ∉ i.variant.regsWritten → t.get8 r = s.get8 r) ∧
    (i.variant.mayWriteSP = false → t.sp = s.sp) ∧
    (s.branches i.variant = false → i.variant.cond?.isSome = true → t.sp = s.sp) ∧
    t.params = s.params ∧ t.draws = s.draws

/-- An instruction changes no byte of memory but those it stores to, at the addresses computed from the state it starts in (R32, R48). -/
def Obligations.MemoryOutsideTheStoredBytesIsKept : Prop :=
  ∀ (i : Instr) (s t : State), exec i s = .next t →
    ∀ (slot : ReadSlot) (b : Word), (∀ a ∈ s.storeAddrs i.variant, cellOf b ≠ cellOf a) → t.read8 slot b = s.read8 slot b

/-- EI and RETI issue `int_enable` and set the mirror, DI issues `int_disable` and clears it, whatever the mirror was, and no other instruction
issues a command or touches the mirror (R223, R244). Over any sequence of events the stream only grows, and the mirror follows the last command
added to it (R243); observing the port returns the mirror and the stream (R266) and changes nothing. The mirror is the spec's decision (R243,
D6); the stream as a field of State is the model's form (notes/assumptions/13.md, DESIGN CHOICE). -/
def Obligations.PortCommandsSetTheMirror : Prop :=
  (∀ (i : Instr) (s t : State), exec i s = .next t →
    t.ime = PortCommand.mirror s.ime i.variant.portCommand ∧ t.commands = s.commands ++ i.variant.portCommand.toList) ∧
  (∀ i : Instr, (i.variant.portCommand = some .intEnable ↔ i = .EI ∨ i = .RETI) ∧ (i.variant.portCommand = some .intDisable ↔ i = .DI)) ∧
  (∀ (inputs : List HostInput) (s t : State), acts inputs s = .next t →
    ∃ added, t.commands = s.commands ++ added ∧ t.ime = PortCommand.mirror s.ime added.getLast?) ∧
  ∀ s : State, act .observePort s = .next s ∧ returned .observePort s = .port s.ime s.commands

/-- HALT is the only instruction that sets `halted`, no instruction clears it, `wake` clears it (R16) and changes nothing else (R245, D7). That
`wake` is a transition of its own, `State.wake`, is the model's reading (notes/assumptions/7.md, DEDUCED). -/
def Obligations.HaltedIsSetOnlyByHalt : Prop :=
  (∀ (i : Instr) (s t : State), exec i s = .next t → t.halted = (s.halted || decide (i = .HALT))) ∧
  ∀ s : State, s.wake.halted = false ∧ { s.wake with halted := s.halted } = s

/-- Nothing in the block depends on `ime` or on the commands issued (R243): two states that differ in them alone step alike and issue the
same commands. The stream as a field of State is the model's form (notes/assumptions/13.md). -/
def Obligations.ImeIsReadByNothing : Prop :=
  ∀ (s : State) (b : Bool) (old : List PortCommand),
    (∀ t, step s = .next t → ∃ b' issued, t.commands = s.commands ++ issued ∧
      step { s with ime := b, commands := old } = .next { t with ime := b', commands := old ++ issued }) ∧
    (∀ r, step s = .fault r → step { s with ime := b, commands := old } = .fault r)

/-! ## The bus and the register file -/

/-- R31: the routing of a byte read, range by range. Only 0xA000 to 0xBFFF depends on `CART_RAM` (R34): with it absent, every other address is
routed the same. -/
def Obligations.ReadsAreRoutedByTheTable : Prop :=
  ∀ (s : State) (slot : ReadSlot) (a : Word), (s.params.cartRam = .present ∨ ¬ (0xA000 ≤ a.toNat ∧ a.toNat ≤ 0xBFFF)) →
    s.read8 slot a =
      if a.toNat ≤ 0xDFFF then s.mem.get a.toNat
      else if a.toNat ≤ 0xFDFF then s.read8 slot (a - 0x2000)
      else if a.toNat ≤ 0xFE9F then s.mem.get a.toNat
      else if a.toNat ≤ 0xFEFF then 0x00
      else s.mem.get a.toNat

/-- R32: a byte write changes the one cell named and nothing else; writes to ROM, to the unmapped range and to an absent cartridge RAM are
discarded. -/
def Obligations.WritesChangeOneCellOrNone : Prop :=
  ∀ (s : State) (a : Word) (v : Byte),
    (a.toNat ≤ 0x7FFF ∨ (0xFEA0 ≤ a.toNat ∧ a.toNat ≤ 0xFEFF) → s.write8 a v = s) ∧
    (0xA000 ≤ a.toNat ∧ a.toNat ≤ 0xBFFF → s.params.cartRam = .absent → s.write8 a v = s) ∧
    (0xA000 ≤ a.toNat ∧ a.toNat ≤ 0xBFFF → s.params.cartRam = .present → s.write8 a v = { s with mem := s.mem.set a.toNat v }) ∧
    ((0x8000 ≤ a.toNat ∧ a.toNat ≤ 0x9FFF) ∨ (0xC000 ≤ a.toNat ∧ a.toNat ≤ 0xDFFF) ∨ (0xFE00 ≤ a.toNat ∧ a.toNat ≤ 0xFE9F) ∨
      0xFF00 ≤ a.toNat → s.write8 a v = { s with mem := s.mem.set a.toNat v }) ∧
    (0xE000 ≤ a.toNat ∧ a.toNat ≤ 0xFDFF → s.write8 a v = s.write8 (a - 0x2000) v) ∧
    ∀ n k : Nat, (s.mem.set n v).get k = if k = n then v else s.mem.get k

/-- R37, the echo law: an echo address and the address 0x2000 below it are one cell, in both
directions, and 0xDE00 to 0xDFFF have no echo. -/
def Obligations.EchoIsTheSameCell : Prop :=
  ∀ (s : State) (a : Word) (x : Byte) (slot : ReadSlot), 0xE000 ≤ a.toNat → a.toNat ≤ 0xFDFF →
    (s.write8 a x).read8 slot a = x ∧ (s.write8 a x).read8 slot (a - 0x2000) = x ∧ (s.write8 (a - 0x2000) x).read8 slot a = x ∧
    s.read8 slot a = s.read8 slot (a - 0x2000) ∧ s.write8 a x = s.write8 (a - 0x2000) x ∧
    ∀ b : Word, 0xDE00 ≤ b.toNat → b.toNat ≤ 0xDFFF → (s.write8 b x).read8 slot a = s.read8 slot a

/-- R43, R44, R45: words are two routed bytes, the low one at the address; at 0xFFFF the low half is `ie`, the high half reads 0x00, or the
byte at 0x0000 under `wrap`, and is discarded by a write either way. -/
def Obligations.WordsAreTwoRoutedBytes : Prop :=
  ∀ (s : State) (a w : Word),
    (a ≠ 0xFFFF →
      s.read16 a = cat (s.read8 .data1 (a + 1)) (s.read8 .data0 a) ∧ s.write16 a w = (s.write8 a (lo8 w)).write8 (a + 1) (hi8 w)) ∧
    (s.params.wordAtFFFF = .unmapped → s.read16 0xFFFF = cat 0x00 (s.mem.get 0xFFFF)) ∧
    (s.params.wordAtFFFF = .wrap → s.read16 0xFFFF = cat (s.mem.get 0x0000) (s.mem.get 0xFFFF)) ∧
    s.write16 0xFFFF w = { s with mem := s.mem.set 0xFFFF (lo8 w) }

/-- R47, the stack law: push then pop restores SP always, and yields the word when both its bytes are read/write cells. -/
def Obligations.PushThenPopRestores : Prop :=
  ∀ (s : State) (w : Word),
    (s.push16 w).sp = s.sp - 2 ∧ (s.push16 w).popped.sp = s.sp ∧ (WordStored s (s.sp - 2) → (s.push16 w).popWord = w)

/-- R12: a pair is the concatenation of its registers, a pair write goes through to both (F masked), a byte write is seen in the pair. -/
def Obligations.PairsAreViews : Prop :=
  ∀ (s : State) (w : Word) (v : Byte),
    s.get16 .AF = cat s.a s.f ∧ s.get16 .BC = cat s.b s.c ∧ s.get16 .DE = cat s.d s.e ∧ s.get16 .HL = cat s.h s.l ∧
    s.set16 .AF w = { s with a := hi8 w, f := lo8 w &&& 0xF0 } ∧ s.set16 .BC w = { s with b := hi8 w, c := lo8 w } ∧
    s.set16 .DE w = { s with d := hi8 w, e := lo8 w } ∧ s.set16 .HL w = { s with h := hi8 w, l := lo8 w } ∧
    (s.set16 .BC w).get16 .BC = w ∧ (s.set16 .DE w).get16 .DE = w ∧ (s.set16 .HL w).get16 .HL = w ∧
    (s.set16 .AF w).get16 .AF = w &&& 0xFFF0 ∧
    (s.set8 .H v).get16 .HL = cat v s.l ∧ (s.set8 .L v).get16 .HL = cat s.h v

/-- R11: every write to F clears its low nibble; writing one flag leaves the other seven bits of F. -/
def Obligations.FlagRegisterKeepsItsForm : Prop :=
  ∀ (s : State) (v : Byte) (fl : Flag),
    (s.set8 .F v = { s with f := v &&& 0xF0 }) ∧
    (s.setFlag fl = { s with f := (s.setFlag fl).f } ∧ s.clearFlag fl = { s with f := (s.clearFlag fl).f }) ∧
    ∀ j : Nat, j < 8 →
      (s.setFlag fl).f.getLsbD j = (decide (j = fl.bit) || s.f.getLsbD j) ∧
      (s.clearFlag fl).f.getLsbD j = (!decide (j = fl.bit) && s.f.getLsbD j)

/-! ## The ALU primitives -/

/-- R130, R131: the contracts of `add8` and `sub8`, and with them that result and carry together are the exact sum or difference. -/
def Obligations.AddersMeetTheirContracts : Prop :=
  ∀ (a b : Byte) (cin : Bool),
    ((add8 a b cin).result.toNat = (a.toNat + b.toNat + num cin) % 256 ∧
      ((add8 a b cin).carry = true ↔ 255 < a.toNat + b.toNat + num cin) ∧
      ((add8 a b cin).half = true ↔ 15 < a.toNat % 16 + b.toNat % 16 + num cin) ∧
      (add8 a b cin).result.toNat + 256 * num (add8 a b cin).carry = a.toNat + b.toNat + num cin) ∧
    ((sub8 a b cin).result = a - b - BitVec.ofNat 8 (num cin) ∧
      ((sub8 a b cin).carry = true ↔ a.toNat < b.toNat + num cin) ∧
      ((sub8 a b cin).half = true ↔ a.toNat % 16 < b.toNat % 16 + num cin) ∧
      (sub8 a b cin).result.toNat + b.toNat + num cin = a.toNat + 256 * num (sub8 a b cin).carry)

/-- R170: the six primitives bit by bit, and the bit each shifts out. -/
def Obligations.ShiftPrimitivesMoveEveryBit : Prop :=
  ∀ (v : Byte) (x : Bool),
    (∀ j : Nat, j < 8 →
      bitAt (rotateLeft1 v x).result j = (if j = 0 then x else bitAt v (j - 1)) ∧
      bitAt (rotateRight1 v x).result j = (if j = 7 then x else bitAt v (j + 1)) ∧
      bitAt (shiftLeft1 v).result j = (if j = 0 then false else bitAt v (j - 1)) ∧
      bitAt (shiftRight1Logical v).result j = (if j = 7 then false else bitAt v (j + 1)) ∧
      bitAt (shiftRight1Arithmetic v).result j = (if j = 7 then bitAt v 7 else bitAt v (j + 1)) ∧
      bitAt (swapNibbles v).result j = bitAt v ((j + 4) % 8)) ∧
    (rotateLeft1 v x).out = bitAt v 7 ∧ (rotateRight1 v x).out = bitAt v 0 ∧ (shiftLeft1 v).out = bitAt v 7 ∧
    (shiftRight1Logical v).out = bitAt v 0 ∧ (shiftRight1Arithmetic v).out = bitAt v 0 ∧ (swapNibbles v).out = false

/-! ## 8-bit loads -/

/-- R100 to R104: LD between registers, immediate, and the memory byte at HL. -/
def Obligations.LoadsBetweenRegistersAndHLMoveTheByte : Prop :=
  ∀ (i : Instr) (s : State),
    (∀ rd rs, i.variant = .LD_r_r rd rs →
      encode i = [byteXYZ 0b01 (regCode rd) (regCode rs)] ∧ exec i s = .next ((s.set8 rd (s.get8 rs)).advance 1)) ∧
    (∀ r d, i.variant = .LD_r_d8 r d → encode i = [byteXYZ 0b00 (regCode r) 0b110, d] ∧ exec i s = .next ((s.set8 r d).advance 2)) ∧
    (∀ r, i.variant = .LD_r_HLm r →
      encode i = [byteXYZ 0b01 (regCode r) 0b110] ∧ exec i s = .next ((s.set8 r (s.read8 .data0 (cat s.h s.l))).advance 1)) ∧
    (∀ r, i.variant = .LD_HLm_r r →
      encode i = [byteXYZ 0b01 0b110 (regCode r)] ∧ exec i s = .next ((s.write8 (cat s.h s.l) (s.get8 r)).advance 1)) ∧
    (∀ d, i = .LD_HLm_d8 d → encode i = [0x36, d] ∧ exec i s = .next ((s.write8 (cat s.h s.l) d).advance 2))

/-- R105, R106, R109, R111, R113: the loads of A from memory. -/
def Obligations.LoadsOfAFromMemory : Prop :=
  ∀ (s : State) (a : Word) (o : Byte),
    (encode .LD_A_BCm = [0x0A] ∧ exec .LD_A_BCm s = .next { s with a := s.read8 .data0 (cat s.b s.c), pc := s.pc + 1 }) ∧
    (encode .LD_A_DEm = [0x1A] ∧ exec .LD_A_DEm s = .next { s with a := s.read8 .data0 (cat s.d s.e), pc := s.pc + 1 }) ∧
    (encode (.LD_A_a16m a) = [0xFA, lo8 a, hi8 a] ∧ exec (.LD_A_a16m a) s = .next { s with a := s.read8 .data0 a, pc := s.pc + 3 }) ∧
    (encode .LDH_A_Cm = [0xF2] ∧ exec .LDH_A_Cm s = .next { s with a := s.read8 .data0 (cat 0xFF s.c), pc := s.pc + 1 }) ∧
    (encode (.LDH_A_a8m o) = [0xF0, o] ∧ exec (.LDH_A_a8m o) s = .next { s with a := s.read8 .data0 (cat 0xFF o), pc := s.pc + 2 })

/-- R107, R108, R110, R112, R114: the stores of A to memory. -/
def Obligations.StoresOfAToMemory : Prop :=
  ∀ (s : State) (a : Word) (o : Byte),
    (encode .LD_BCm_A = [0x02] ∧ exec .LD_BCm_A s = .next ((s.write8 (cat s.b s.c) s.a).advance 1)) ∧
    (encode .LD_DEm_A = [0x12] ∧ exec .LD_DEm_A s = .next ((s.write8 (cat s.d s.e) s.a).advance 1)) ∧
    (encode (.LD_a16m_A a) = [0xEA, lo8 a, hi8 a] ∧ exec (.LD_a16m_A a) s = .next ((s.write8 a s.a).advance 3)) ∧
    (encode .LDH_Cm_A = [0xE2] ∧ exec .LDH_Cm_A s = .next ((s.write8 (cat 0xFF s.c) s.a).advance 1)) ∧
    (encode (.LDH_a8m_A o) = [0xE0, o] ∧ exec (.LDH_a8m_A o) s = .next ((s.write8 (cat 0xFF o) s.a).advance 2))

/-- R115 to R118: LDI and LDD access memory at the old HL, then move HL by one. -/
def Obligations.LdiAndLddMoveHLAfterTheAccess : Prop :=
  ∀ s : State,
    let hl := cat s.h s.l
    (encode .LDI_A_HLm = [0x2A] ∧ exec .LDI_A_HLm s =
      .next { s with a := s.read8 .data0 hl, h := hi8 (hl + 1), l := lo8 (hl + 1), pc := s.pc + 1 }) ∧
    (encode .LDI_HLm_A = [0x22] ∧ exec .LDI_HLm_A s =
      .next { s.write8 hl s.a with h := hi8 (hl + 1), l := lo8 (hl + 1), pc := s.pc + 1 }) ∧
    (encode .LDD_A_HLm = [0x3A] ∧ exec .LDD_A_HLm s =
      .next { s with a := s.read8 .data0 hl, h := hi8 (hl - 1), l := lo8 (hl - 1), pc := s.pc + 1 }) ∧
    (encode .LDD_HLm_A = [0x32] ∧ exec .LDD_HLm_A s =
      .next { s.write8 hl s.a with h := hi8 (hl - 1), l := lo8 (hl - 1), pc := s.pc + 1 })

/-! ## 16-bit loads and the stack -/

/-- R121, R122, R123: LD rr,d16; LD (a16),SP; LD SP,HL. -/
def Obligations.WideLoadsMoveTheWord : Prop :=
  ∀ (i : Instr) (s : State),
    (∀ rr d, i.variant = .LD_rr_d16 rr d →
      encode i = [byteXPQZ 0b00 (rpCode rr) 0 0b001, lo8 d, hi8 d] ∧ exec i s = .next ((s.set16 rr d).advance 3)) ∧
    (∀ a, i = .LD_a16m_SP a → encode i = [0x08, lo8 a, hi8 a] ∧ exec i s = .next ((s.write16 a s.sp).advance 3)) ∧
    (i = .LD_SP_HL → encode i = [0xF9] ∧ exec i s = .next { s with sp := cat s.h s.l, pc := s.pc + 1 })

/-- R124: HL <- SP + signed offset; the flags by `LDHL_FLAGS`. -/
def Obligations.LdhlAddsTheSignedOffset : Prop :=
  ∀ (s : State) (e : Byte),
    encode (.LDHL_SP_e8 e) = [0xF8, e] ∧
    ∃ t, exec (.LDHL_SP_e8 e) s = .next t ∧
      let sum := s.sp + e.signExtend 16
      t = { s with h := hi8 sum, l := lo8 sum, f := t.f, pc := s.pc + 2 } ∧
      (s.params.ldhlFlags = .hardware →
        FlagsBecome s t false false (decide (0x0F < s.sp.toNat % 16 + e.toNat % 16)) (decide (0xFF < s.sp.toNat % 256 + e.toNat))) ∧
      (s.params.ldhlFlags = .unaffected → t.f = s.f)

/-- R125, R126: PUSH rr, and POP of a pair other than AF. -/
def Obligations.PushAndPopMoveThePair : Prop :=
  ∀ (i : Instr) (s : State),
    (∀ rr, i.variant = .PUSH_rr rr → encode i = [byteXPQZ 0b11 (rp2Code rr) 0 0b101] ∧
      exec i s = .next (({ s with sp := s.sp - 2 }.write16 (s.sp - 2) (s.get16 rr)).advance 1)) ∧
    (∀ rr, i.variant = .POP_rr rr → encode i = [byteXPQZ 0b11 (rp2Code rr) 0 0b001] ∧
      exec i s = .next (({ s with sp := s.sp + 2 }.set16 rr (s.read16 s.sp)).advance 1))

/-- R127: POP AF pops into A and F and drops the low nibble of the popped F (D16). -/
def Obligations.PopAFMasksF : Prop :=
  ∀ s : State,
    encode .POP_AF = [0xF1] ∧
    exec .POP_AF s = .next { s with sp := s.sp + 2, a := hi8 (s.read16 s.sp), f := lo8 (s.read16 s.sp) &&& 0xF0, pc := s.pc + 1 }

/-! ## 8-bit arithmetic and logic -/

/-- R133, R134: ADD and ADC in the three operand shapes. -/
def Obligations.AddAndAdcGiveTheSum : Prop :=
  AluEncoding .ADD 0b000 ∧ AluEncoding .ADC 0b001 ∧
  ∀ (i : Instr) (s : State) (v : Byte) (n : Nat) (cin : Nat),
    (AluForm .ADD i s v n ∧ cin = 0) ∨ (AluForm .ADC i s v n ∧ cin = num (s.flag .C)) →
    ∃ t, exec i s = .next t ∧ t.a.toNat = (s.a.toNat + v.toNat + cin) % 256 ∧
      t = { s with a := t.a, f := t.f, pc := s.pc + BitVec.ofNat 16 n } ∧
      FlagsBecome s t (decide (t.a = 0x00)) false (decide (15 < s.a.toNat % 16 + v.toNat % 16 + cin))
        (decide (255 < s.a.toNat + v.toNat + cin))

/-- R135, R136, R140: SUB, SBC and CP in the three operand shapes; CP leaves A. -/
def Obligations.SubSbcAndCpGiveTheDifference : Prop :=
  AluEncoding .SUB 0b010 ∧ AluEncoding .SBC 0b011 ∧ AluEncoding .CP 0b111 ∧
  ∀ (i : Instr) (s : State) (v : Byte) (n : Nat),
    (∀ cin, (AluForm .SUB i s v n ∧ cin = 0) ∨ (AluForm .SBC i s v n ∧ cin = num (s.flag .C)) →
      ∃ t, exec i s = .next t ∧ t.a = s.a - v - BitVec.ofNat 8 cin ∧
        t = { s with a := t.a, f := t.f, pc := s.pc + BitVec.ofNat 16 n } ∧
        FlagsBecome s t (decide (t.a = 0x00)) true (decide (s.a.toNat % 16 < v.toNat % 16 + cin))
          (decide (s.a.toNat < v.toNat + cin))) ∧
    (AluForm .CP i s v n →
      ∃ t, exec i s = .next t ∧ t = { s with f := t.f, pc := s.pc + BitVec.ofNat 16 n } ∧
        FlagsBecome s t (decide (s.a = v)) true (decide (s.a.toNat % 16 < v.toNat % 16)) (decide (s.a.toNat < v.toNat)))

/-- R137, R138, R139: AND, XOR and OR in the three operand shapes. -/
def Obligations.LogicCombinesBitwise : Prop :=
  AluEncoding .AND 0b100 ∧ AluEncoding .XOR 0b101 ∧ AluEncoding .OR 0b110 ∧
  ∀ (i : Instr) (s : State) (v r : Byte) (n : Nat) (h : Bool),
    (AluForm .AND i s v n ∧ r = s.a &&& v ∧ h = true) ∨ (AluForm .XOR i s v n ∧ r = s.a ^^^ v ∧ h = false) ∨
      (AluForm .OR i s v n ∧ r = s.a ||| v ∧ h = false) →
    ∃ t, exec i s = .next t ∧ t = { s with a := r, f := t.f, pc := s.pc + BitVec.ofNat 16 n } ∧
      FlagsBecome s t (decide (r = 0x00)) false h false

/-- R141 to R144: INC and DEC of a register or of the byte at HL; C is unaffected, and the flags come from the result even when the write
is discarded. -/
def Obligations.IncAndDecOfAByte : Prop :=
  ∀ (i : Instr) (s : State) (x : Loc8),
    (i.variant = .INC_s x →
      encode i = [byteXYZ 0b00 (locCode x) 0b100] ∧
      ∃ t, exec i s = .next t ∧ t = { s.writeLoc x (s.readLoc x + 1) with f := t.f, pc := s.pc + 1 } ∧
        FlagsBecome s t (decide (s.readLoc x = 0xFF)) false (decide ((s.readLoc x).toNat % 16 = 15)) (s.flag .C)) ∧
    (i.variant = .DEC_s x →
      encode i = [byteXYZ 0b00 (locCode x) 0b101] ∧
      ∃ t, exec i s = .next t ∧ t = { s.writeLoc x (s.readLoc x - 1) with f := t.f, pc := s.pc + 1 } ∧
        FlagsBecome s t (decide (s.readLoc x = 0x01)) true (decide ((s.readLoc x).toNat % 16 = 0)) (s.flag .C))

/-- R145: DAA adds or subtracts the adjustments that N, H, C and the old A call for. -/
def Obligations.DaaAdjustsByItsRule : Prop :=
  ∀ s : State,
    encode .DAA = [0x27] ∧
    ∃ t, exec .DAA s = .next t ∧ t = { s with a := t.a, f := t.f, pc := s.pc + 1 } ∧
      (s.flag .N = false →
        let low := s.flag .H = true ∨ 9 < s.a.toNat % 16
        let high := s.flag .C = true ∨ 0x99 < s.a.toNat
        t.a = s.a + (if low then 0x06 else 0x00) + (if high then 0x60 else 0x00) ∧
        FlagsBecome s t (decide (t.a = 0x00)) false false (decide high)) ∧
      (s.flag .N = true →
        t.a = s.a - (if s.flag .H = true then 0x06 else 0x00) - (if s.flag .C = true then 0x60 else 0x00) ∧
        FlagsBecome s t (decide (t.a = 0x00)) true false (s.flag .C))

/-- What DAA is for (R145 "packs A into binary-coded-decimal"): after ADD or SUB of two-digit packed decimals it gives the decimal sum or
difference, and C the decimal carry or borrow. -/
def Obligations.DaaGivesDecimalArithmetic : Prop :=
  ∀ (s : State) (x y : Nat), x < 100 → y < 100 → s.a = bcd x →
    (∃ t u, exec (.ADD_A_d8 (bcd y)) s = .next t ∧ exec .DAA t = .next u ∧ u.a = bcd ((x + y) % 100) ∧
      u.flag .C = decide (100 ≤ x + y) ∧ u.flag .Z = decide ((x + y) % 100 = 0)) ∧
    (∃ t u, exec (.SUB_d8 (bcd y)) s = .next t ∧ exec .DAA t = .next u ∧ u.a = bcd ((100 + x - y) % 100) ∧
      u.flag .C = decide (x < y) ∧ u.flag .Z = decide (x = y))

/-- R146, R147, R148: CPL, SCF, CCF. -/
def Obligations.CplScfAndCcf : Prop :=
  ∀ s : State,
    (encode .CPL = [0x2F] ∧ ∃ t, exec .CPL s = .next t ∧ t = { s with a := ~~~s.a, f := t.f, pc := s.pc + 1 } ∧
      FlagsBecome s t (s.flag .Z) true true (s.flag .C)) ∧
    (encode .SCF = [0x37] ∧ ∃ t, exec .SCF s = .next t ∧ t = { s with f := t.f, pc := s.pc + 1 } ∧
      FlagsBecome s t (s.flag .Z) false false true) ∧
    (encode .CCF = [0x3F] ∧ ∃ t, exec .CCF s = .next t ∧ t = { s with f := t.f, pc := s.pc + 1 } ∧
      FlagsBecome s t (s.flag .Z) false false (!s.flag .C))

/-- The source's law S2 (R141 to R144): INC then DEC, or DEC then INC, of one location restores its value and leaves C, with Z and H those of
the second instruction; for the byte at HL where its cell is read/write. -/
def Obligations.IncThenDecRestores : Prop :=
  ∀ (s : State) (x : Loc8) (i j : Instr), i.variant = .INC_s x → j.variant = .DEC_s x → (x = .HLm → s.writable s.hl = true) →
    (∃ t u, exec i s = .next t ∧ exec j t = .next u ∧ u.readLoc x = s.readLoc x ∧
      FlagsBecome s u (decide (s.readLoc x = 0x00)) true (decide ((s.readLoc x).toNat % 16 = 15)) (s.flag .C)) ∧
    (∃ t u, exec j s = .next t ∧ exec i t = .next u ∧ u.readLoc x = s.readLoc x ∧
      FlagsBecome s u (decide (s.readLoc x = 0x00)) false (decide ((s.readLoc x).toNat % 16 = 0)) (s.flag .C))

/-! ## 16-bit arithmetic -/

/-- R161, R163, R164: ADD HL,rr leaves Z, with H out of bit 11 and C out of bit 15; INC rr and DEC rr write no flag. The sum modulo 65536 is that
of `add16`, which the spec marks as derived (R160). -/
def Obligations.PairArithmetic : Prop :=
  ∀ (i : Instr) (s : State) (rr : Reg16),
    (i.variant = .ADD_HL_rr rr →
      encode i = [byteXPQZ 0b00 (rpCode rr) 1 0b001] ∧
      ∃ t, exec i s = .next t ∧ t = { s with h := hi8 (s.hl + s.get16 rr), l := lo8 (s.hl + s.get16 rr), f := t.f, pc := s.pc + 1 } ∧
        FlagsBecome s t (s.flag .Z) false (decide (0x0FFF < s.hl.toNat % 4096 + (s.get16 rr).toNat % 4096))
          (decide (0xFFFF < s.hl.toNat + (s.get16 rr).toNat))) ∧
    (i.variant = .INC_rr rr →
      encode i = [byteXPQZ 0b00 (rpCode rr) 0 0b011] ∧ exec i s = .next ((s.set16 rr (s.get16 rr + 1)).advance 1)) ∧
    (i.variant = .DEC_rr rr →
      encode i = [byteXPQZ 0b00 (rpCode rr) 1 0b011] ∧ exec i s = .next ((s.set16 rr (s.get16 rr - 1)).advance 1))

/-- R162: ADD SP,e8. -/
def Obligations.AddSPAddsTheSignedOffset : Prop :=
  ∀ (s : State) (e : Byte),
    encode (.ADD_SP_e8 e) = [0xE8, e] ∧
    ∃ t, exec (.ADD_SP_e8 e) s = .next t ∧ t = { s with sp := s.sp + e.signExtend 16, f := t.f, pc := s.pc + 2 } ∧
      FlagsBecome s t false false (decide (0x0F < s.sp.toNat % 16 + e.toNat % 16)) (decide (0xFF < s.sp.toNat % 256 + e.toNat))

/-! ## Rotates, shifts, bits -/

/-- R171 to R174: the accumulator rotates; Z is unaffected (C7). -/
def Obligations.AccumulatorRotatesLeaveZ : Prop :=
  ∀ (i : Instr) (s : State) (op : Byte) (r : ShiftOut),
    (i = .RLCA ∧ op = 0x07 ∧ r = rotateLeft1 s.a (bitAt s.a 7)) ∨ (i = .RLA ∧ op = 0x17 ∧ r = rotateLeft1 s.a (s.flag .C)) ∨
      (i = .RRCA ∧ op = 0x0F ∧ r = rotateRight1 s.a (bitAt s.a 0)) ∨ (i = .RRA ∧ op = 0x1F ∧ r = rotateRight1 s.a (s.flag .C)) →
    encode i = [op] ∧
    ∃ t, exec i s = .next t ∧ t = { s with a := r.result, f := t.f, pc := s.pc + 1 } ∧ FlagsBecome s t (s.flag .Z) false false r.out

/-- R176 to R183: the rotates and shifts of the CB table on a register or the byte at HL. -/
def Obligations.CbRotatesAndShifts : Prop :=
  ∀ (i : Instr) (s : State) (x : Loc8) (op : RotOp) (yyy : BitVec 3) (r : ShiftOut),
    i.variant = .ROT_s op x →
    (op = .RLC ∧ yyy = 0 ∧ r = rotateLeft1 (s.readLoc x) (bitAt (s.readLoc x) 7)) ∨
      (op = .RRC ∧ yyy = 1 ∧ r = rotateRight1 (s.readLoc x) (bitAt (s.readLoc x) 0)) ∨
      (op = .RL ∧ yyy = 2 ∧ r = rotateLeft1 (s.readLoc x) (s.flag .C)) ∨
      (op = .RR ∧ yyy = 3 ∧ r = rotateRight1 (s.readLoc x) (s.flag .C)) ∨
      (op = .SLA ∧ yyy = 4 ∧ r = shiftLeft1 (s.readLoc x)) ∨ (op = .SRA ∧ yyy = 5 ∧ r = shiftRight1Arithmetic (s.readLoc x)) ∨
      (op = .SWAP ∧ yyy = 6 ∧ r = swapNibbles (s.readLoc x)) ∨ (op = .SRL ∧ yyy = 7 ∧ r = shiftRight1Logical (s.readLoc x)) →
    encode i = [0xCB, byteXYZ 0b00 yyy (locCode x)] ∧
    ∃ t, exec i s = .next t ∧ t = { s.writeLoc x r.result with f := t.f, pc := s.pc + 2 } ∧
      FlagsBecome s t (decide (r.result = 0x00)) false false r.out

/-- R184, R185, R186: BIT tests and writes nothing but flags; RES and SET change the one bit and no flag. -/
def Obligations.BitResAndSet : Prop :=
  ∀ (i : Instr) (s : State) (x : Loc8) (b : BitVec 3),
    (i.variant = .BIT_b_s b x →
      encode i = [0xCB, byteXYZ 0b01 b (locCode x)] ∧
      ∃ t, exec i s = .next t ∧ t = { s with f := t.f, pc := s.pc + 2 } ∧
        FlagsBecome s t (!(s.readLoc x).getLsbD b.toNat) false true (s.flag .C)) ∧
    (i.variant = .RES_b_s b x →
      encode i = [0xCB, byteXYZ 0b10 b (locCode x)] ∧
      ∃ v, exec i s = .next ((s.writeLoc x v).advance 2) ∧
        ∀ j : Nat, j < 8 → v.getLsbD j = if j = b.toNat then false else (s.readLoc x).getLsbD j) ∧
    (i.variant = .SET_b_s b x →
      encode i = [0xCB, byteXYZ 0b11 b (locCode x)] ∧
      ∃ v, exec i s = .next ((s.writeLoc x v).advance 2) ∧
        ∀ j : Nat, j < 8 → v.getLsbD j = if j = b.toNat then true else (s.readLoc x).getLsbD j)

/-! ## Control transfer -/

/-- R201, R202: the absolute jumps. -/
def Obligations.AbsoluteJumps : Prop :=
  ∀ (i : Instr) (s : State) (a : Word),
    (i = .JP_a16 a → encode i = [0xC3, lo8 a, hi8 a] ∧ exec i s = .next { s with pc := a }) ∧
    (∀ cc, i.variant = .JP_cc_a16 cc a → encode i = [byteCC 0b110 cc 0b010, lo8 a, hi8 a] ∧
      exec i s = .next { s with pc := if condTrue s cc = true then a else s.pc + 3 })

/-- R203, R204, R205: the jump to HL itself (G14), and the relative jumps from the address of the following instruction (G9). -/
def Obligations.JumpsThroughHLAndRelative : Prop :=
  ∀ (i : Instr) (s : State) (e : Byte),
    (i = .JP_HLm → encode i = [0xE9] ∧ exec i s = .next { s with pc := cat s.h s.l }) ∧
    (i = .JR_e8 e → encode i = [0x18, e] ∧ exec i s = .next { s with pc := s.pc + 2 + e.signExtend 16 }) ∧
    (∀ cc, i.variant = .JR_cc_e8 cc e → encode i = [byteCC 0b001 cc 0b000, e] ∧
      exec i s = .next { s with pc := if condTrue s cc = true then s.pc + 2 + e.signExtend 16 else s.pc + 2 })

/-- R206, R207: CALL and CALL cc push the address of the following instruction and jump. -/
def Obligations.CallsPushTheFollowingAddress : Prop :=
  ∀ (i : Instr) (s : State),
    (∀ a, i = .CALL_a16 a → encode i = [0xCD, lo8 a, hi8 a] ∧
      exec i s = .next { { s with sp := s.sp - 2 }.write16 (s.sp - 2) (s.pc + 3) with pc := a }) ∧
    (∀ cc a, i.variant = .CALL_cc_a16 cc a → encode i = [byteCC 0b110 cc 0b100, lo8 a, hi8 a] ∧
      exec i s = .next (if condTrue s cc = true then { { s with sp := s.sp - 2 }.write16 (s.sp - 2) (s.pc + 3) with pc := a }
        else { s with pc := s.pc + 3 }))

/-- R211: RST pushes the address of the following instruction and jumps to one of the eight fixed addresses (G10). -/
def Obligations.RstCallsAFixedAddress : Prop :=
  ∀ (i : Instr) (s : State) (t : Byte), i.variant = .RST t →
    (∃ y : BitVec 3, t.toNat = 8 * y.toNat ∧ encode i = [byteXYZ 0b11 y 0b111]) ∧
    exec i s = .next { { s with sp := s.sp - 2 }.write16 (s.sp - 2) (s.pc + 1) with pc := cat 0x00 t }

/-- R208, R209, R210: RET, RET cc and RETI pop the address into PC; RETI also issues `int_enable`, seen in the mirror and in the command
stream (log 13). -/
def Obligations.ReturnsPopTheAddress : Prop :=
  ∀ (i : Instr) (s : State),
    (i = .RET → encode i = [0xC9] ∧ exec i s = .next { s with sp := s.sp + 2, pc := s.read16 s.sp }) ∧
    (∀ cc, i.variant = .RET_cc cc → encode i = [byteCC 0b110 cc 0b000] ∧
      exec i s = .next (if condTrue s cc = true then { s with sp := s.sp + 2, pc := s.read16 s.sp } else { s with pc := s.pc + 1 })) ∧
    (i = .RETI → encode i = [0xD9] ∧ exec i s =
      .next { s with sp := s.sp + 2, pc := s.read16 s.sp, ime := true, commands := s.commands ++ [.intEnable] })

/-- A subroutine comes back: after CALL or a taken CALL cc, and an RET in the state it leaves, PC is at the instruction after the call and
SP where it was, if the stack word is read/write memory (R47, R206, R207, R208). -/
def Obligations.ReturnComesBackAfterTheCall : Prop :=
  ∀ (i : Instr) (s : State) (a : Word), WordStored s (s.sp - 2) →
    i = .CALL_a16 a ∨ (∃ cc, i.variant = .CALL_cc_a16 cc a ∧ condTrue s cc = true) →
    ∃ t, exec i s = .next t ∧ t.pc = a ∧ exec .RET t = .next { s with pc := s.pc + 3, mem := t.mem }

/-! ## Miscellaneous -/

/-- R220, R221, R222, R223, R224: NOP, STOP, HALT, DI, EI. DI and EI issue their command whatever `ime` was (R223); the stream as a field of
State is the model's form (notes/assumptions/13.md). -/
def Obligations.NopStopHaltDiAndEi : Prop :=
  ∀ s : State,
    (encode .NOP = [0x00] ∧ exec .NOP s = .next { s with pc := s.pc + 1 }) ∧
    (encode .STOP = [0x10] ∧ (s.params.stopLength = .one → exec .STOP s = .next { s with pc := s.pc + 1 }) ∧
      (s.params.stopLength = .two → exec .STOP s = .next { s with pc := s.pc + 2 })) ∧
    (encode .HALT = [0x76] ∧ exec .HALT s = .next { s with halted := true, pc := s.pc + 1 }) ∧
    (encode .DI = [0xF3] ∧ exec .DI s = .next { s with ime := false, commands := s.commands ++ [.intDisable], pc := s.pc + 1 }) ∧
    (encode .EI = [0xFB] ∧ exec .EI s = .next { s with ime := true, commands := s.commands ++ [.intEnable], pc := s.pc + 1 })

/-- R225: the eleven unassigned bytes are no-operations of length 1, or, under `ILLEGAL_POLICY = fault`, stop with `decode_failure(here,
opcode)`. -/
def Obligations.IllegalBytesFollowThePolicy : Prop :=
  (∀ op b1 b2 : Byte, op ∈ illegalBytes → (decode op b1 b2).variant = .ILLEGAL op ∧ encode (decode op b1 b2) = [op]) ∧
  ∀ (i : Instr) (s : State) (op : Byte), i.variant = .ILLEGAL op →
    op ∈ ([0xD3, 0xDB, 0xDD, 0xE3, 0xE4, 0xEB, 0xEC, 0xED, 0xF4, 0xFC, 0xFD] : List Byte) ∧
    (s.params.illegalPolicy = .nop → exec i s = .next { s with pc := s.pc + 1 }) ∧
    (s.params.illegalPolicy = .fault → exec i s = .fault (.decodeFailure s.pc op))

/-- R53, R263: a store is seen by the next fetch, through any alias, with no fence. -/
def Obligations.FetchSeesTheLatestStore : Prop :=
  ∀ (s : State) (a b : Word) (v : Byte), s.writable a = true → cellOf b = cellOf a →
    ((s.write8 a v).jump b).fetch =
      decode v ((s.write8 a v).read8 .fetch1 (b + 1)) ((s.write8 a v).read8 .fetch2 (b + 2))
end

