-- ==== Sys2Proof/Laws/Bits.lean ====
section
/-! SUPPORT. Bytes and words, bits of a byte, and the flag register. -/

namespace Sys2Proof

theorem getLsbD_cat (h l : Byte) (i : Nat) : (cat h l).getLsbD i = if i < 8 then l.getLsbD i else h.getLsbD (i - 8) := by
  unfold cat; exact BitVec.getLsbD_append

theorem getLsbD_hi8 (w : Word) (i : Nat) : (hi8 w).getLsbD i = (decide (i < 8) && w.getLsbD (8 + i)) := by
  unfold hi8; exact BitVec.getLsbD_extractLsb' ..

theorem getLsbD_lo8 (w : Word) (i : Nat) : (lo8 w).getLsbD i = (decide (i < 8) && w.getLsbD i) := by
  simp [lo8]

@[simp] theorem cat_hi8_lo8 (w : Word) : cat (hi8 w) (lo8 w) = w := by
  apply BitVec.eq_of_getLsbD_eq
  intro i hi
  rw [getLsbD_cat, getLsbD_hi8, getLsbD_lo8]
  by_cases h : i < 8
  · simp [h]
  · simp [h, show i - 8 < 8 by omega, show 8 + (i - 8) = i by omega]

@[simp] theorem hi8_cat (h l : Byte) : hi8 (cat h l) = h := by
  apply BitVec.eq_of_getLsbD_eq
  intro i hi
  rw [getLsbD_hi8, getLsbD_cat]
  simp [hi]

@[simp] theorem lo8_cat (h l : Byte) : lo8 (cat h l) = l := by
  apply BitVec.eq_of_getLsbD_eq
  intro i hi
  rw [getLsbD_lo8, getLsbD_cat]
  simp [hi]

/-- The rule's own form of sign extension is the usual one. -/
theorem sext16_eq_signExtend (v : Byte) : sext16 v = v.signExtend 16 := by
  revert v; decide

/-- `1 << i` has bit `j` just when `j = i`. -/
theorem getLsbD_one_shl (i j : Nat) (hj : j < 8) : ((1 : Byte) <<< i).getLsbD j = decide (i = j) := by
  rw [BitVec.getLsbD_shiftLeft, show (1 : Byte) = 1#8 from rfl, BitVec.getLsbD_one]
  by_cases h : i = j
  · subst h; simp [hj]
  · by_cases hlt : j < i
    · simp [hlt, h]
    · simp [hlt, h, hj]; omega

theorem getLsbD_ones (j : Nat) (hj : j < 8) : (0xFF : Byte).getLsbD j = true := by
  rw [show (0xFF : Byte) = BitVec.allOnes 8 from rfl, BitVec.getLsbD_allOnes]; simp [hj]

theorem bitAt_setBitAt (v : Byte) (i j : Nat) (hj : j < 8) : bitAt (setBitAt v i) j = (decide (i = j) || bitAt v j) := by
  rw [bitAt, bitAt, setBitAt, BitVec.getLsbD_or, getLsbD_one_shl i j hj, Bool.or_comm]

theorem bitAt_clearBitAt (v : Byte) (i j : Nat) (hj : j < 8) : bitAt (clearBitAt v i) j = (!decide (i = j) && bitAt v j) := by
  rw [bitAt, bitAt, clearBitAt, BitVec.getLsbD_and, BitVec.getLsbD_xor, getLsbD_ones j hj, getLsbD_one_shl i j hj, Bool.and_comm]
  simp

theorem bitAt_putBit (v : Byte) (i j : Nat) (b : Bool) (hj : j < 8) :
    bitAt (putBit v i b) j = if i = j then b else bitAt v j := by
  cases b
  · rw [putBit, if_neg (by simp), bitAt_clearBitAt v i j hj]
    by_cases h : i = j <;> simp [h]
  · rw [putBit, if_pos rfl, bitAt_setBitAt v i j hj]
    by_cases h : i = j <;> simp [h]

/-- A flag is in bits 7..4. -/
theorem Flag.bit_lt (fl : Flag) : fl.bit < 8 := by cases fl <;> decide

theorem Flag.bit_inj {x y : Flag} : x.bit = y.bit ↔ x = y := by cases x <;> cases y <;> decide

/-- Reading a flag after a flag write. -/
theorem bitAt_putFlag (f : Byte) (x y : Flag) (o : Option Bool) :
    bitAt (putFlag f x o) y.bit = if x = y then o.getD (bitAt f y.bit) else bitAt f y.bit := by
  cases o with
  | none => by_cases h : x = y <;> simp [putFlag]
  | some b => simp [putFlag, bitAt_putBit f _ _ b y.bit_lt, Flag.bit_inj]

/-- A flag write leaves the low nibble of F as it was. -/
theorem FlagWrite.apply_low (w : FlagWrite) (f : Byte) : w.apply f &&& 0x0F = f &&& 0x0F := by
  have h : ∀ (f : Byte) (x : Flag) (b : Bool), putBit f x.bit b &&& 0x0F = f &&& 0x0F := by
    intro f x b; cases x <;> revert f b <;> decide
  have h' : ∀ (f : Byte) (x : Flag) (o : Option Bool), putFlag f x o &&& 0x0F = f &&& 0x0F := by
    intro f x o; cases o with
    | none => rfl
    | some b => exact h f x b
  rw [FlagWrite.apply, h', h', h', h']

namespace Machine

/-- Reading a flag after the flag writes of an instruction: the value written, or the old one. -/
@[simp] theorem State.flag_writeFlags_Z (s : State) (w : FlagWrite) : (s.writeFlags w).flag .Z = w.z.getD (s.flag .Z) := by
  simp [State.flag, State.writeFlags, FlagWrite.apply, bitAt_putFlag]

@[simp] theorem State.flag_writeFlags_N (s : State) (w : FlagWrite) : (s.writeFlags w).flag .N = w.n.getD (s.flag .N) := by
  simp [State.flag, State.writeFlags, FlagWrite.apply, bitAt_putFlag]

@[simp] theorem State.flag_writeFlags_H (s : State) (w : FlagWrite) : (s.writeFlags w).flag .H = w.h.getD (s.flag .H) := by
  simp [State.flag, State.writeFlags, FlagWrite.apply, bitAt_putFlag]

@[simp] theorem State.flag_writeFlags_C (s : State) (w : FlagWrite) : (s.writeFlags w).flag .C = w.c.getD (s.flag .C) := by
  simp [State.flag, State.writeFlags, FlagWrite.apply, bitAt_putFlag]

end Machine

end Sys2Proof
end

