-- ==== Sys2Proof/Laws/Memory.lean ====
section
/-! SUPPORT. The list of cells: a read after a write, and that a write keeps the canonical form. -/

namespace Sys2Proof.Machine

@[simp] theorem Memory.get_nil (n : Nat) : Memory.get [] n = unlistedByte := rfl

theorem Memory.get_erase_same (m : Memory) (n : Nat) : (m.erase n).get n = unlistedByte := by
  induction m with
  | nil => rfl
  | cons c rest ih =>
    obtain ⟨k, v⟩ := c
    by_cases h : k = n
    · simp [Memory.erase, h, ih]
    · simp [Memory.erase, Memory.get, h, ih]

theorem Memory.get_erase_other (m : Memory) {n k : Nat} (h : k ≠ n) : (m.erase n).get k = m.get k := by
  induction m with
  | nil => rfl
  | cons c rest ih =>
    obtain ⟨j, v⟩ := c
    by_cases hj : j = n
    · subst hj; simp [Memory.erase, Memory.get, ih, Ne.symm h]
    · simp [Memory.erase, Memory.get, hj, ih]

/-- Inserting a cell that is not listed. -/
theorem Memory.get_insert (m : Memory) (n k : Nat) (v : Byte) (hn : ∀ c ∈ m, c.1 ≠ n) :
    (m.insert n v).get k = if k = n then v else m.get k := by
  induction m with
  | nil => simp [Memory.insert, Memory.get, eq_comm]
  | cons c rest ih =>
    obtain ⟨j, w⟩ := c
    have hj : j ≠ n := hn (j, w) (by simp)
    have hr : ∀ c ∈ rest, c.1 ≠ n := fun c hc => hn c (by simp [hc])
    by_cases hlt : n < j
    · simp only [Memory.insert, hlt, if_true, Memory.get, eq_comm]
    · by_cases hk : j = k
      · subst hk; simp [Memory.insert, hlt, Memory.get, hj]
      · simp [Memory.insert, hlt, Memory.get, hk, ih hr]

theorem Memory.erase_keys (m : Memory) (n : Nat) : ∀ c ∈ m.erase n, c ∈ m ∧ c.1 ≠ n := by
  induction m with
  | nil => intro c hc; simp [Memory.erase] at hc
  | cons x rest ih =>
    obtain ⟨j, w⟩ := x
    intro c hc
    by_cases hj : j = n
    · simp only [Memory.erase, hj, if_true] at hc
      exact ⟨by simp [(ih c hc).1], (ih c hc).2⟩
    · simp only [Memory.erase, hj, if_false, List.mem_cons] at hc
      rcases hc with rfl | hc
      · exact ⟨by simp, hj⟩
      · exact ⟨by simp [(ih c hc).1], (ih c hc).2⟩

theorem Memory.mem_insert (m : Memory) (n : Nat) (v : Byte) (c : Host.Cell) : c ∈ m.insert n v ↔ c = (n, v) ∨ c ∈ m := by
  induction m with
  | nil => simp [Memory.insert]
  | cons x rest ih =>
    obtain ⟨j, w⟩ := x
    by_cases hlt : n < j
    · simp [Memory.insert, hlt]
    · simp only [Memory.insert, hlt, if_false, List.mem_cons, ih]
      tauto

/-- A write is seen by a read of the same cell and leaves every other cell alone. -/
theorem Memory.get_set (m : Memory) (n k : Nat) (v : Byte) : (m.set n v).get k = if k = n then v else m.get k := by
  unfold Memory.set
  by_cases hv : v = unlistedByte
  · by_cases hk : k = n
    · subst hk; simp [hv, Memory.get_erase_same]
    · simp [hv, hk, Memory.get_erase_other m hk]
  · rw [if_neg hv, Memory.get_insert _ _ _ _ fun c hc => (Memory.erase_keys m n c hc).2]
    by_cases hk : k = n
    · simp [hk]
    · simp [hk, Memory.get_erase_other m hk]

@[simp] theorem Memory.get_set_same (m : Memory) (n : Nat) (v : Byte) : (m.set n v).get n = v := by simp [Memory.get_set]

theorem Memory.get_set_other (m : Memory) {n k : Nat} (v : Byte) (h : k ≠ n) : (m.set n v).get k = m.get k := by
  simp [Memory.get_set, h]

/-- What a write can list: the cell written, and what was listed. -/
theorem Memory.mem_set {m : Memory} {n : Nat} {v : Byte} {c : Host.Cell} (h : c ∈ m.set n v) : c = (n, v) ∨ c ∈ m := by
  unfold Memory.set at h
  split at h
  · exact .inr (Memory.erase_keys m n c h).1
  · rcases (Memory.mem_insert _ _ _ _).1 h with rfl | h
    · exact .inl rfl
    · exact .inr (Memory.erase_keys m n c h).1

/-- Above `lo`, as a proposition. -/
theorem Memory.sortedAbove_cons (lo : Option Nat) (k : Nat) (v : Byte) (rest : Memory) :
    Memory.sortedAbove lo ((k, v) :: rest) = true ↔ (∀ n, lo = some n → n < k) ∧ Memory.sortedAbove (some k) rest = true := by
  cases lo <;> simp [Memory.sortedAbove]

theorem Memory.sortedAbove_weaken {lo lo' : Option Nat} {m : Memory} (h : Memory.sortedAbove lo m = true)
    (hlo : ∀ n, lo' = some n → ∃ k, lo = some k ∧ n ≤ k) : Memory.sortedAbove lo' m = true := by
  cases m with
  | nil => rfl
  | cons c rest =>
    obtain ⟨k, v⟩ := c
    rw [Memory.sortedAbove_cons] at h ⊢
    refine ⟨fun n hn => ?_, h.2⟩
    obtain ⟨j, hj, hnj⟩ := hlo n hn
    exact lt_of_le_of_lt hnj (h.1 j hj)

theorem Memory.sortedAbove_erase {lo : Option Nat} {m : Memory} (n : Nat) (h : Memory.sortedAbove lo m = true) :
    Memory.sortedAbove lo (m.erase n) = true := by
  induction m generalizing lo with
  | nil => rfl
  | cons c rest ih =>
    obtain ⟨k, v⟩ := c
    rw [Memory.sortedAbove_cons] at h
    by_cases hk : k = n
    · simp only [Memory.erase, hk, if_true]
      refine Memory.sortedAbove_weaken (ih h.2) fun j hj => ⟨k, rfl, le_of_lt (h.1 j hj)⟩
    · simp only [Memory.erase, hk, if_false]
      exact (Memory.sortedAbove_cons _ _ _ _).2 ⟨h.1, ih h.2⟩

theorem Memory.sortedAbove_insert {lo : Option Nat} {m : Memory} {n : Nat} (v : Byte) (h : Memory.sortedAbove lo m = true)
    (hlo : ∀ j, lo = some j → j < n) (hn : ∀ c ∈ m, c.1 ≠ n) : Memory.sortedAbove lo (m.insert n v) = true := by
  induction m generalizing lo with
  | nil => exact (Memory.sortedAbove_cons _ _ _ _).2 ⟨hlo, rfl⟩
  | cons c rest ih =>
    obtain ⟨k, w⟩ := c
    rw [Memory.sortedAbove_cons] at h
    by_cases hlt : n < k
    · simp only [Memory.insert, hlt, if_true]
      exact (Memory.sortedAbove_cons _ _ _ _).2 ⟨hlo, (Memory.sortedAbove_cons _ _ _ _).2 ⟨fun j hj => by cases hj; exact hlt, h.2⟩⟩
    · simp only [Memory.insert, hlt, if_false]
      have hk : k ≠ n := hn (k, w) (by simp)
      refine (Memory.sortedAbove_cons _ _ _ _).2 ⟨h.1, ih h.2 (fun j hj => ?_) fun c hc => hn c (by simp [hc])⟩
      cases hj; omega

/-- The canonical form, unfolded once. -/
theorem Memory.wf_iff (m : Memory) :
    m.wf = true ↔ Memory.sortedAbove none m = true ∧ ∀ c ∈ m, isCell c.1 = true ∧ c.2 ≠ unlistedByte := by
  simp [Memory.wf]

/-- A write to a cell keeps the canonical form. -/
theorem Memory.wf_set {m : Memory} {n : Nat} (v : Byte) (h : m.wf = true) (hn : isCell n = true) : (m.set n v).wf = true := by
  rw [Memory.wf_iff] at h ⊢
  refine ⟨?_, fun c hc => ?_⟩
  · unfold Memory.set
    split
    · exact Memory.sortedAbove_erase n h.1
    · exact Memory.sortedAbove_insert v (Memory.sortedAbove_erase n h.1) (fun j hj => by cases hj)
        fun c hc => (Memory.erase_keys m n c hc).2
  · by_cases hv : v = unlistedByte
    · rw [Memory.set, if_pos hv] at hc
      exact h.2 c (Memory.erase_keys m n c hc).1
    · rcases Memory.mem_set hc with rfl | hc
      · exact ⟨hn, hv⟩
      · exact h.2 c hc

/-- Laying bytes into cells keeps the canonical form. -/
theorem Memory.wf_load {m : Memory} (bytes : List Byte) (n : Nat) (h : m.wf = true)
    (hn : ∀ k, n ≤ k → k < n + bytes.length → isCell k = true) : (m.load n bytes).wf = true := by
  induction bytes generalizing m n with
  | nil => exact h
  | cons v rest ih =>
    refine ih (n + 1) (Memory.wf_set v h (hn n le_rfl (by simp))) fun k hk hlt => hn k (by omega) ?_
    simp only [List.length_cons]; omega

end Sys2Proof.Machine
end

