-- ==== Sys2Proof/Laws/State.lean ====
section
/-! SUPPORT. What each update of State does to each field, tagged for simp, so that no later proof unfolds a record update. -/

namespace Sys2Proof.Machine

variable (s : State)

@[simp] theorem State.advance_a (n : Nat) : (s.advance n).a = s.a := rfl
@[simp] theorem State.advance_f (n : Nat) : (s.advance n).f = s.f := rfl
@[simp] theorem State.advance_b (n : Nat) : (s.advance n).b = s.b := rfl
@[simp] theorem State.advance_c (n : Nat) : (s.advance n).c = s.c := rfl
@[simp] theorem State.advance_d (n : Nat) : (s.advance n).d = s.d := rfl
@[simp] theorem State.advance_e (n : Nat) : (s.advance n).e = s.e := rfl
@[simp] theorem State.advance_h (n : Nat) : (s.advance n).h = s.h := rfl
@[simp] theorem State.advance_l (n : Nat) : (s.advance n).l = s.l := rfl
@[simp] theorem State.advance_sp (n : Nat) : (s.advance n).sp = s.sp := rfl
@[simp] theorem State.advance_pc (n : Nat) : (s.advance n).pc = s.pc + BitVec.ofNat 16 n := rfl
@[simp] theorem State.advance_halted (n : Nat) : (s.advance n).halted = s.halted := rfl
@[simp] theorem State.advance_ime (n : Nat) : (s.advance n).ime = s.ime := rfl
@[simp] theorem State.advance_commands (n : Nat) : (s.advance n).commands = s.commands := rfl
@[simp] theorem State.advance_mem (n : Nat) : (s.advance n).mem = s.mem := rfl
@[simp] theorem State.advance_params (n : Nat) : (s.advance n).params = s.params := rfl
@[simp] theorem State.advance_draws (n : Nat) : (s.advance n).draws = s.draws := rfl

@[simp] theorem State.jump_a (t : Word) : (s.jump t).a = s.a := rfl
@[simp] theorem State.jump_f (t : Word) : (s.jump t).f = s.f := rfl
@[simp] theorem State.jump_b (t : Word) : (s.jump t).b = s.b := rfl
@[simp] theorem State.jump_c (t : Word) : (s.jump t).c = s.c := rfl
@[simp] theorem State.jump_d (t : Word) : (s.jump t).d = s.d := rfl
@[simp] theorem State.jump_e (t : Word) : (s.jump t).e = s.e := rfl
@[simp] theorem State.jump_h (t : Word) : (s.jump t).h = s.h := rfl
@[simp] theorem State.jump_l (t : Word) : (s.jump t).l = s.l := rfl
@[simp] theorem State.jump_sp (t : Word) : (s.jump t).sp = s.sp := rfl
@[simp] theorem State.jump_pc (t : Word) : (s.jump t).pc = t := rfl
@[simp] theorem State.jump_halted (t : Word) : (s.jump t).halted = s.halted := rfl
@[simp] theorem State.jump_ime (t : Word) : (s.jump t).ime = s.ime := rfl
@[simp] theorem State.jump_commands (t : Word) : (s.jump t).commands = s.commands := rfl
@[simp] theorem State.jump_mem (t : Word) : (s.jump t).mem = s.mem := rfl
@[simp] theorem State.jump_params (t : Word) : (s.jump t).params = s.params := rfl
@[simp] theorem State.jump_draws (t : Word) : (s.jump t).draws = s.draws := rfl

@[simp] theorem State.wake_a : (s.wake).a = s.a := rfl
@[simp] theorem State.wake_f : (s.wake).f = s.f := rfl
@[simp] theorem State.wake_b : (s.wake).b = s.b := rfl
@[simp] theorem State.wake_c : (s.wake).c = s.c := rfl
@[simp] theorem State.wake_d : (s.wake).d = s.d := rfl
@[simp] theorem State.wake_e : (s.wake).e = s.e := rfl
@[simp] theorem State.wake_h : (s.wake).h = s.h := rfl
@[simp] theorem State.wake_l : (s.wake).l = s.l := rfl
@[simp] theorem State.wake_sp : (s.wake).sp = s.sp := rfl
@[simp] theorem State.wake_pc : (s.wake).pc = s.pc := rfl
@[simp] theorem State.wake_halted : (s.wake).halted = false := rfl
@[simp] theorem State.wake_ime : (s.wake).ime = s.ime := rfl
@[simp] theorem State.wake_commands : (s.wake).commands = s.commands := rfl
@[simp] theorem State.wake_mem : (s.wake).mem = s.mem := rfl
@[simp] theorem State.wake_params : (s.wake).params = s.params := rfl
@[simp] theorem State.wake_draws : (s.wake).draws = s.draws := rfl

@[simp] theorem State.issue_a (k : PortCommand) : (s.issue k).a = s.a := rfl
@[simp] theorem State.issue_f (k : PortCommand) : (s.issue k).f = s.f := rfl
@[simp] theorem State.issue_b (k : PortCommand) : (s.issue k).b = s.b := rfl
@[simp] theorem State.issue_c (k : PortCommand) : (s.issue k).c = s.c := rfl
@[simp] theorem State.issue_d (k : PortCommand) : (s.issue k).d = s.d := rfl
@[simp] theorem State.issue_e (k : PortCommand) : (s.issue k).e = s.e := rfl
@[simp] theorem State.issue_h (k : PortCommand) : (s.issue k).h = s.h := rfl
@[simp] theorem State.issue_l (k : PortCommand) : (s.issue k).l = s.l := rfl
@[simp] theorem State.issue_sp (k : PortCommand) : (s.issue k).sp = s.sp := rfl
@[simp] theorem State.issue_pc (k : PortCommand) : (s.issue k).pc = s.pc := rfl
@[simp] theorem State.issue_halted (k : PortCommand) : (s.issue k).halted = s.halted := rfl
@[simp] theorem State.issue_ime (k : PortCommand) : (s.issue k).ime = k.enables := rfl
@[simp] theorem State.issue_commands (k : PortCommand) : (s.issue k).commands = s.commands ++ [k] := rfl
@[simp] theorem State.issue_mem (k : PortCommand) : (s.issue k).mem = s.mem := rfl
@[simp] theorem State.issue_params (k : PortCommand) : (s.issue k).params = s.params := rfl
@[simp] theorem State.issue_draws (k : PortCommand) : (s.issue k).draws = s.draws := rfl

@[simp] theorem State.popped_a : (s.popped).a = s.a := rfl
@[simp] theorem State.popped_f : (s.popped).f = s.f := rfl
@[simp] theorem State.popped_b : (s.popped).b = s.b := rfl
@[simp] theorem State.popped_c : (s.popped).c = s.c := rfl
@[simp] theorem State.popped_d : (s.popped).d = s.d := rfl
@[simp] theorem State.popped_e : (s.popped).e = s.e := rfl
@[simp] theorem State.popped_h : (s.popped).h = s.h := rfl
@[simp] theorem State.popped_l : (s.popped).l = s.l := rfl
@[simp] theorem State.popped_sp : (s.popped).sp = s.sp + 2 := rfl
@[simp] theorem State.popped_pc : (s.popped).pc = s.pc := rfl
@[simp] theorem State.popped_halted : (s.popped).halted = s.halted := rfl
@[simp] theorem State.popped_ime : (s.popped).ime = s.ime := rfl
@[simp] theorem State.popped_commands : (s.popped).commands = s.commands := rfl
@[simp] theorem State.popped_mem : (s.popped).mem = s.mem := rfl
@[simp] theorem State.popped_params : (s.popped).params = s.params := rfl
@[simp] theorem State.popped_draws : (s.popped).draws = s.draws := rfl

@[simp] theorem State.writeFlags_a (w : FlagWrite) : (s.writeFlags w).a = s.a := rfl
@[simp] theorem State.writeFlags_f (w : FlagWrite) : (s.writeFlags w).f = w.apply s.f := rfl
@[simp] theorem State.writeFlags_b (w : FlagWrite) : (s.writeFlags w).b = s.b := rfl
@[simp] theorem State.writeFlags_c (w : FlagWrite) : (s.writeFlags w).c = s.c := rfl
@[simp] theorem State.writeFlags_d (w : FlagWrite) : (s.writeFlags w).d = s.d := rfl
@[simp] theorem State.writeFlags_e (w : FlagWrite) : (s.writeFlags w).e = s.e := rfl
@[simp] theorem State.writeFlags_h (w : FlagWrite) : (s.writeFlags w).h = s.h := rfl
@[simp] theorem State.writeFlags_l (w : FlagWrite) : (s.writeFlags w).l = s.l := rfl
@[simp] theorem State.writeFlags_sp (w : FlagWrite) : (s.writeFlags w).sp = s.sp := rfl
@[simp] theorem State.writeFlags_pc (w : FlagWrite) : (s.writeFlags w).pc = s.pc := rfl
@[simp] theorem State.writeFlags_halted (w : FlagWrite) : (s.writeFlags w).halted = s.halted := rfl
@[simp] theorem State.writeFlags_ime (w : FlagWrite) : (s.writeFlags w).ime = s.ime := rfl
@[simp] theorem State.writeFlags_commands (w : FlagWrite) : (s.writeFlags w).commands = s.commands := rfl
@[simp] theorem State.writeFlags_mem (w : FlagWrite) : (s.writeFlags w).mem = s.mem := rfl
@[simp] theorem State.writeFlags_params (w : FlagWrite) : (s.writeFlags w).params = s.params := rfl
@[simp] theorem State.writeFlags_draws (w : FlagWrite) : (s.writeFlags w).draws = s.draws := rfl

@[simp] theorem State.setFlag_a (fl : Flag) : (s.setFlag fl).a = s.a := rfl
@[simp] theorem State.setFlag_f (fl : Flag) : (s.setFlag fl).f = putBit s.f fl.bit true := rfl
@[simp] theorem State.setFlag_b (fl : Flag) : (s.setFlag fl).b = s.b := rfl
@[simp] theorem State.setFlag_c (fl : Flag) : (s.setFlag fl).c = s.c := rfl
@[simp] theorem State.setFlag_d (fl : Flag) : (s.setFlag fl).d = s.d := rfl
@[simp] theorem State.setFlag_e (fl : Flag) : (s.setFlag fl).e = s.e := rfl
@[simp] theorem State.setFlag_h (fl : Flag) : (s.setFlag fl).h = s.h := rfl
@[simp] theorem State.setFlag_l (fl : Flag) : (s.setFlag fl).l = s.l := rfl
@[simp] theorem State.setFlag_sp (fl : Flag) : (s.setFlag fl).sp = s.sp := rfl
@[simp] theorem State.setFlag_pc (fl : Flag) : (s.setFlag fl).pc = s.pc := rfl
@[simp] theorem State.setFlag_halted (fl : Flag) : (s.setFlag fl).halted = s.halted := rfl
@[simp] theorem State.setFlag_ime (fl : Flag) : (s.setFlag fl).ime = s.ime := rfl
@[simp] theorem State.setFlag_commands (fl : Flag) : (s.setFlag fl).commands = s.commands := rfl
@[simp] theorem State.setFlag_mem (fl : Flag) : (s.setFlag fl).mem = s.mem := rfl
@[simp] theorem State.setFlag_params (fl : Flag) : (s.setFlag fl).params = s.params := rfl
@[simp] theorem State.setFlag_draws (fl : Flag) : (s.setFlag fl).draws = s.draws := rfl

@[simp] theorem State.clearFlag_a (fl : Flag) : (s.clearFlag fl).a = s.a := rfl
@[simp] theorem State.clearFlag_f (fl : Flag) : (s.clearFlag fl).f = putBit s.f fl.bit false := rfl
@[simp] theorem State.clearFlag_b (fl : Flag) : (s.clearFlag fl).b = s.b := rfl
@[simp] theorem State.clearFlag_c (fl : Flag) : (s.clearFlag fl).c = s.c := rfl
@[simp] theorem State.clearFlag_d (fl : Flag) : (s.clearFlag fl).d = s.d := rfl
@[simp] theorem State.clearFlag_e (fl : Flag) : (s.clearFlag fl).e = s.e := rfl
@[simp] theorem State.clearFlag_h (fl : Flag) : (s.clearFlag fl).h = s.h := rfl
@[simp] theorem State.clearFlag_l (fl : Flag) : (s.clearFlag fl).l = s.l := rfl
@[simp] theorem State.clearFlag_sp (fl : Flag) : (s.clearFlag fl).sp = s.sp := rfl
@[simp] theorem State.clearFlag_pc (fl : Flag) : (s.clearFlag fl).pc = s.pc := rfl
@[simp] theorem State.clearFlag_halted (fl : Flag) : (s.clearFlag fl).halted = s.halted := rfl
@[simp] theorem State.clearFlag_ime (fl : Flag) : (s.clearFlag fl).ime = s.ime := rfl
@[simp] theorem State.clearFlag_commands (fl : Flag) : (s.clearFlag fl).commands = s.commands := rfl
@[simp] theorem State.clearFlag_mem (fl : Flag) : (s.clearFlag fl).mem = s.mem := rfl
@[simp] theorem State.clearFlag_params (fl : Flag) : (s.clearFlag fl).params = s.params := rfl
@[simp] theorem State.clearFlag_draws (fl : Flag) : (s.clearFlag fl).draws = s.draws := rfl

@[simp] theorem State.place_a (n : Word) (v : Byte) : (s.place n v).a = s.a := rfl
@[simp] theorem State.place_f (n : Word) (v : Byte) : (s.place n v).f = s.f := rfl
@[simp] theorem State.place_b (n : Word) (v : Byte) : (s.place n v).b = s.b := rfl
@[simp] theorem State.place_c (n : Word) (v : Byte) : (s.place n v).c = s.c := rfl
@[simp] theorem State.place_d (n : Word) (v : Byte) : (s.place n v).d = s.d := rfl
@[simp] theorem State.place_e (n : Word) (v : Byte) : (s.place n v).e = s.e := rfl
@[simp] theorem State.place_h (n : Word) (v : Byte) : (s.place n v).h = s.h := rfl
@[simp] theorem State.place_l (n : Word) (v : Byte) : (s.place n v).l = s.l := rfl
@[simp] theorem State.place_sp (n : Word) (v : Byte) : (s.place n v).sp = s.sp := rfl
@[simp] theorem State.place_pc (n : Word) (v : Byte) : (s.place n v).pc = s.pc := rfl
@[simp] theorem State.place_halted (n : Word) (v : Byte) : (s.place n v).halted = s.halted := rfl
@[simp] theorem State.place_ime (n : Word) (v : Byte) : (s.place n v).ime = s.ime := rfl
@[simp] theorem State.place_commands (n : Word) (v : Byte) : (s.place n v).commands = s.commands := rfl
@[simp] theorem State.place_mem (n : Word) (v : Byte) : (s.place n v).mem = s.mem.set (cellOf n) v := rfl
@[simp] theorem State.place_params (n : Word) (v : Byte) : (s.place n v).params = s.params := rfl
@[simp] theorem State.place_draws (n : Word) (v : Byte) : (s.place n v).draws = s.draws := rfl

@[simp] theorem State.tick_a : (s.tick).a = s.a := by unfold State.tick; split <;> rfl
@[simp] theorem State.tick_f : (s.tick).f = s.f := by unfold State.tick; split <;> rfl
@[simp] theorem State.tick_b : (s.tick).b = s.b := by unfold State.tick; split <;> rfl
@[simp] theorem State.tick_c : (s.tick).c = s.c := by unfold State.tick; split <;> rfl
@[simp] theorem State.tick_d : (s.tick).d = s.d := by unfold State.tick; split <;> rfl
@[simp] theorem State.tick_e : (s.tick).e = s.e := by unfold State.tick; split <;> rfl
@[simp] theorem State.tick_h : (s.tick).h = s.h := by unfold State.tick; split <;> rfl
@[simp] theorem State.tick_l : (s.tick).l = s.l := by unfold State.tick; split <;> rfl
@[simp] theorem State.tick_sp : (s.tick).sp = s.sp := by unfold State.tick; split <;> rfl
@[simp] theorem State.tick_pc : (s.tick).pc = s.pc := by unfold State.tick; split <;> rfl
@[simp] theorem State.tick_halted : (s.tick).halted = s.halted := by unfold State.tick; split <;> rfl
@[simp] theorem State.tick_ime : (s.tick).ime = s.ime := by unfold State.tick; split <;> rfl
@[simp] theorem State.tick_commands : (s.tick).commands = s.commands := by unfold State.tick; split <;> rfl
@[simp] theorem State.tick_mem : (s.tick).mem = s.mem := by unfold State.tick; split <;> rfl
@[simp] theorem State.tick_params : (s.tick).params = s.params := by unfold State.tick; split <;> rfl

@[simp] theorem State.write8_a (n : Word) (v : Byte) : (s.write8 n v).a = s.a := by unfold State.write8; split <;> rfl
@[simp] theorem State.write8_f (n : Word) (v : Byte) : (s.write8 n v).f = s.f := by unfold State.write8; split <;> rfl
@[simp] theorem State.write8_b (n : Word) (v : Byte) : (s.write8 n v).b = s.b := by unfold State.write8; split <;> rfl
@[simp] theorem State.write8_c (n : Word) (v : Byte) : (s.write8 n v).c = s.c := by unfold State.write8; split <;> rfl
@[simp] theorem State.write8_d (n : Word) (v : Byte) : (s.write8 n v).d = s.d := by unfold State.write8; split <;> rfl
@[simp] theorem State.write8_e (n : Word) (v : Byte) : (s.write8 n v).e = s.e := by unfold State.write8; split <;> rfl
@[simp] theorem State.write8_h (n : Word) (v : Byte) : (s.write8 n v).h = s.h := by unfold State.write8; split <;> rfl
@[simp] theorem State.write8_l (n : Word) (v : Byte) : (s.write8 n v).l = s.l := by unfold State.write8; split <;> rfl
@[simp] theorem State.write8_sp (n : Word) (v : Byte) : (s.write8 n v).sp = s.sp := by unfold State.write8; split <;> rfl
@[simp] theorem State.write8_pc (n : Word) (v : Byte) : (s.write8 n v).pc = s.pc := by unfold State.write8; split <;> rfl
@[simp] theorem State.write8_halted (n : Word) (v : Byte) : (s.write8 n v).halted = s.halted := by unfold State.write8; split <;> rfl
@[simp] theorem State.write8_ime (n : Word) (v : Byte) : (s.write8 n v).ime = s.ime := by unfold State.write8; split <;> rfl
@[simp] theorem State.write8_commands (n : Word) (v : Byte) : (s.write8 n v).commands = s.commands := by unfold State.write8; split <;> rfl
theorem State.write8_mem (n : Word) (v : Byte) : (s.write8 n v).mem =
    if s.writable n then s.mem.set (cellOf n) v else s.mem := by unfold State.write8; split <;> rfl
@[simp] theorem State.write8_params (n : Word) (v : Byte) : (s.write8 n v).params = s.params := by unfold State.write8; split <;> rfl
@[simp] theorem State.write8_draws (n : Word) (v : Byte) : (s.write8 n v).draws = s.draws := by unfold State.write8; split <;> rfl

@[simp] theorem State.write16_a (n w : Word) : (s.write16 n w).a = s.a := by unfold State.write16; dsimp only; split <;> simp
@[simp] theorem State.write16_f (n w : Word) : (s.write16 n w).f = s.f := by unfold State.write16; dsimp only; split <;> simp
@[simp] theorem State.write16_b (n w : Word) : (s.write16 n w).b = s.b := by unfold State.write16; dsimp only; split <;> simp
@[simp] theorem State.write16_c (n w : Word) : (s.write16 n w).c = s.c := by unfold State.write16; dsimp only; split <;> simp
@[simp] theorem State.write16_d (n w : Word) : (s.write16 n w).d = s.d := by unfold State.write16; dsimp only; split <;> simp
@[simp] theorem State.write16_e (n w : Word) : (s.write16 n w).e = s.e := by unfold State.write16; dsimp only; split <;> simp
@[simp] theorem State.write16_h (n w : Word) : (s.write16 n w).h = s.h := by unfold State.write16; dsimp only; split <;> simp
@[simp] theorem State.write16_l (n w : Word) : (s.write16 n w).l = s.l := by unfold State.write16; dsimp only; split <;> simp
@[simp] theorem State.write16_sp (n w : Word) : (s.write16 n w).sp = s.sp := by unfold State.write16; dsimp only; split <;> simp
@[simp] theorem State.write16_pc (n w : Word) : (s.write16 n w).pc = s.pc := by unfold State.write16; dsimp only; split <;> simp
@[simp] theorem State.write16_halted (n w : Word) : (s.write16 n w).halted = s.halted := by unfold State.write16; dsimp only; split <;> simp
@[simp] theorem State.write16_ime (n w : Word) : (s.write16 n w).ime = s.ime := by unfold State.write16; dsimp only; split <;> simp
@[simp] theorem State.write16_commands (n w : Word) : (s.write16 n w).commands = s.commands := by unfold State.write16; dsimp only; split <;> simp
@[simp] theorem State.write16_params (n w : Word) : (s.write16 n w).params = s.params := by unfold State.write16; dsimp only; split <;> simp
@[simp] theorem State.write16_draws (n w : Word) : (s.write16 n w).draws = s.draws := by unfold State.write16; dsimp only; split <;> simp

@[simp] theorem State.push16_a (w : Word) : (s.push16 w).a = s.a := by simp [State.push16]
@[simp] theorem State.push16_f (w : Word) : (s.push16 w).f = s.f := by simp [State.push16]
@[simp] theorem State.push16_b (w : Word) : (s.push16 w).b = s.b := by simp [State.push16]
@[simp] theorem State.push16_c (w : Word) : (s.push16 w).c = s.c := by simp [State.push16]
@[simp] theorem State.push16_d (w : Word) : (s.push16 w).d = s.d := by simp [State.push16]
@[simp] theorem State.push16_e (w : Word) : (s.push16 w).e = s.e := by simp [State.push16]
@[simp] theorem State.push16_h (w : Word) : (s.push16 w).h = s.h := by simp [State.push16]
@[simp] theorem State.push16_l (w : Word) : (s.push16 w).l = s.l := by simp [State.push16]
@[simp] theorem State.push16_pc (w : Word) : (s.push16 w).pc = s.pc := by simp [State.push16]
@[simp] theorem State.push16_halted (w : Word) : (s.push16 w).halted = s.halted := by simp [State.push16]
@[simp] theorem State.push16_ime (w : Word) : (s.push16 w).ime = s.ime := by simp [State.push16]
@[simp] theorem State.push16_commands (w : Word) : (s.push16 w).commands = s.commands := by simp [State.push16]
@[simp] theorem State.push16_params (w : Word) : (s.push16 w).params = s.params := by simp [State.push16]
@[simp] theorem State.push16_draws (w : Word) : (s.push16 w).draws = s.draws := by simp [State.push16]

@[simp] theorem State.push16_sp (w : Word) : (s.push16 w).sp = s.sp - 2 := by simp [State.push16]

/-! `set8` and `set16`. -/

@[simp] theorem State.set8_A_a (v : Byte) : (s.set8 .A v).a = v := rfl
@[simp] theorem State.set8_A_f (v : Byte) : (s.set8 .A v).f = s.f := rfl
@[simp] theorem State.set8_A_b (v : Byte) : (s.set8 .A v).b = s.b := rfl
@[simp] theorem State.set8_A_c (v : Byte) : (s.set8 .A v).c = s.c := rfl
@[simp] theorem State.set8_A_d (v : Byte) : (s.set8 .A v).d = s.d := rfl
@[simp] theorem State.set8_A_e (v : Byte) : (s.set8 .A v).e = s.e := rfl
@[simp] theorem State.set8_A_h (v : Byte) : (s.set8 .A v).h = s.h := rfl
@[simp] theorem State.set8_A_l (v : Byte) : (s.set8 .A v).l = s.l := rfl
@[simp] theorem State.set8_F_a (v : Byte) : (s.set8 .F v).a = s.a := rfl
@[simp] theorem State.set8_F_f (v : Byte) : (s.set8 .F v).f = v &&& 0xF0 := rfl
@[simp] theorem State.set8_F_b (v : Byte) : (s.set8 .F v).b = s.b := rfl
@[simp] theorem State.set8_F_c (v : Byte) : (s.set8 .F v).c = s.c := rfl
@[simp] theorem State.set8_F_d (v : Byte) : (s.set8 .F v).d = s.d := rfl
@[simp] theorem State.set8_F_e (v : Byte) : (s.set8 .F v).e = s.e := rfl
@[simp] theorem State.set8_F_h (v : Byte) : (s.set8 .F v).h = s.h := rfl
@[simp] theorem State.set8_F_l (v : Byte) : (s.set8 .F v).l = s.l := rfl
@[simp] theorem State.set8_B_a (v : Byte) : (s.set8 .B v).a = s.a := rfl
@[simp] theorem State.set8_B_f (v : Byte) : (s.set8 .B v).f = s.f := rfl
@[simp] theorem State.set8_B_b (v : Byte) : (s.set8 .B v).b = v := rfl
@[simp] theorem State.set8_B_c (v : Byte) : (s.set8 .B v).c = s.c := rfl
@[simp] theorem State.set8_B_d (v : Byte) : (s.set8 .B v).d = s.d := rfl
@[simp] theorem State.set8_B_e (v : Byte) : (s.set8 .B v).e = s.e := rfl
@[simp] theorem State.set8_B_h (v : Byte) : (s.set8 .B v).h = s.h := rfl
@[simp] theorem State.set8_B_l (v : Byte) : (s.set8 .B v).l = s.l := rfl
@[simp] theorem State.set8_C_a (v : Byte) : (s.set8 .C v).a = s.a := rfl
@[simp] theorem State.set8_C_f (v : Byte) : (s.set8 .C v).f = s.f := rfl
@[simp] theorem State.set8_C_b (v : Byte) : (s.set8 .C v).b = s.b := rfl
@[simp] theorem State.set8_C_c (v : Byte) : (s.set8 .C v).c = v := rfl
@[simp] theorem State.set8_C_d (v : Byte) : (s.set8 .C v).d = s.d := rfl
@[simp] theorem State.set8_C_e (v : Byte) : (s.set8 .C v).e = s.e := rfl
@[simp] theorem State.set8_C_h (v : Byte) : (s.set8 .C v).h = s.h := rfl
@[simp] theorem State.set8_C_l (v : Byte) : (s.set8 .C v).l = s.l := rfl
@[simp] theorem State.set8_D_a (v : Byte) : (s.set8 .D v).a = s.a := rfl
@[simp] theorem State.set8_D_f (v : Byte) : (s.set8 .D v).f = s.f := rfl
@[simp] theorem State.set8_D_b (v : Byte) : (s.set8 .D v).b = s.b := rfl
@[simp] theorem State.set8_D_c (v : Byte) : (s.set8 .D v).c = s.c := rfl
@[simp] theorem State.set8_D_d (v : Byte) : (s.set8 .D v).d = v := rfl
@[simp] theorem State.set8_D_e (v : Byte) : (s.set8 .D v).e = s.e := rfl
@[simp] theorem State.set8_D_h (v : Byte) : (s.set8 .D v).h = s.h := rfl
@[simp] theorem State.set8_D_l (v : Byte) : (s.set8 .D v).l = s.l := rfl
@[simp] theorem State.set8_E_a (v : Byte) : (s.set8 .E v).a = s.a := rfl
@[simp] theorem State.set8_E_f (v : Byte) : (s.set8 .E v).f = s.f := rfl
@[simp] theorem State.set8_E_b (v : Byte) : (s.set8 .E v).b = s.b := rfl
@[simp] theorem State.set8_E_c (v : Byte) : (s.set8 .E v).c = s.c := rfl
@[simp] theorem State.set8_E_d (v : Byte) : (s.set8 .E v).d = s.d := rfl
@[simp] theorem State.set8_E_e (v : Byte) : (s.set8 .E v).e = v := rfl
@[simp] theorem State.set8_E_h (v : Byte) : (s.set8 .E v).h = s.h := rfl
@[simp] theorem State.set8_E_l (v : Byte) : (s.set8 .E v).l = s.l := rfl
@[simp] theorem State.set8_H_a (v : Byte) : (s.set8 .H v).a = s.a := rfl
@[simp] theorem State.set8_H_f (v : Byte) : (s.set8 .H v).f = s.f := rfl
@[simp] theorem State.set8_H_b (v : Byte) : (s.set8 .H v).b = s.b := rfl
@[simp] theorem State.set8_H_c (v : Byte) : (s.set8 .H v).c = s.c := rfl
@[simp] theorem State.set8_H_d (v : Byte) : (s.set8 .H v).d = s.d := rfl
@[simp] theorem State.set8_H_e (v : Byte) : (s.set8 .H v).e = s.e := rfl
@[simp] theorem State.set8_H_h (v : Byte) : (s.set8 .H v).h = v := rfl
@[simp] theorem State.set8_H_l (v : Byte) : (s.set8 .H v).l = s.l := rfl
@[simp] theorem State.set8_L_a (v : Byte) : (s.set8 .L v).a = s.a := rfl
@[simp] theorem State.set8_L_f (v : Byte) : (s.set8 .L v).f = s.f := rfl
@[simp] theorem State.set8_L_b (v : Byte) : (s.set8 .L v).b = s.b := rfl
@[simp] theorem State.set8_L_c (v : Byte) : (s.set8 .L v).c = s.c := rfl
@[simp] theorem State.set8_L_d (v : Byte) : (s.set8 .L v).d = s.d := rfl
@[simp] theorem State.set8_L_e (v : Byte) : (s.set8 .L v).e = s.e := rfl
@[simp] theorem State.set8_L_h (v : Byte) : (s.set8 .L v).h = s.h := rfl
@[simp] theorem State.set8_L_l (v : Byte) : (s.set8 .L v).l = v := rfl
@[simp] theorem State.set8_sp (r : Reg8) (v : Byte) : (s.set8 r v).sp = s.sp := by cases r <;> rfl
@[simp] theorem State.set8_pc (r : Reg8) (v : Byte) : (s.set8 r v).pc = s.pc := by cases r <;> rfl
@[simp] theorem State.set8_halted (r : Reg8) (v : Byte) : (s.set8 r v).halted = s.halted := by cases r <;> rfl
@[simp] theorem State.set8_ime (r : Reg8) (v : Byte) : (s.set8 r v).ime = s.ime := by cases r <;> rfl
@[simp] theorem State.set8_commands (r : Reg8) (v : Byte) : (s.set8 r v).commands = s.commands := by cases r <;> rfl
@[simp] theorem State.set8_mem (r : Reg8) (v : Byte) : (s.set8 r v).mem = s.mem := by cases r <;> rfl
@[simp] theorem State.set8_params (r : Reg8) (v : Byte) : (s.set8 r v).params = s.params := by cases r <;> rfl
@[simp] theorem State.set8_draws (r : Reg8) (v : Byte) : (s.set8 r v).draws = s.draws := by cases r <;> rfl
@[simp] theorem State.set16_AF (w : Word) : s.set16 .AF w = (s.set8 .A (hi8 w)).set8 .F (lo8 w) := rfl
@[simp] theorem State.set16_BC (w : Word) : s.set16 .BC w = (s.set8 .B (hi8 w)).set8 .C (lo8 w) := rfl
@[simp] theorem State.set16_DE (w : Word) : s.set16 .DE w = (s.set8 .D (hi8 w)).set8 .E (lo8 w) := rfl
@[simp] theorem State.set16_HL (w : Word) : s.set16 .HL w = (s.set8 .H (hi8 w)).set8 .L (lo8 w) := rfl
@[simp] theorem State.set16_SP_sp (w : Word) : (s.set16 .SP w).sp = w := rfl
@[simp] theorem State.set16_PC_pc (w : Word) : (s.set16 .PC w).pc = w := rfl
@[simp] theorem State.set16_halted (p : Reg16) (w : Word) : (s.set16 p w).halted = s.halted := by cases p <;> rfl
@[simp] theorem State.set16_ime (p : Reg16) (w : Word) : (s.set16 p w).ime = s.ime := by cases p <;> rfl
@[simp] theorem State.set16_commands (p : Reg16) (w : Word) : (s.set16 p w).commands = s.commands := by cases p <;> rfl
@[simp] theorem State.set16_mem (p : Reg16) (w : Word) : (s.set16 p w).mem = s.mem := by cases p <;> rfl
@[simp] theorem State.set16_params (p : Reg16) (w : Word) : (s.set16 p w).params = s.params := by cases p <;> rfl
@[simp] theorem State.set16_draws (p : Reg16) (w : Word) : (s.set16 p w).draws = s.draws := by cases p <;> rfl
@[simp] theorem State.set16_SP_a (w : Word) : (s.set16 .SP w).a = s.a := rfl
@[simp] theorem State.set16_SP_f (w : Word) : (s.set16 .SP w).f = s.f := rfl
@[simp] theorem State.set16_SP_b (w : Word) : (s.set16 .SP w).b = s.b := rfl
@[simp] theorem State.set16_SP_c (w : Word) : (s.set16 .SP w).c = s.c := rfl
@[simp] theorem State.set16_SP_d (w : Word) : (s.set16 .SP w).d = s.d := rfl
@[simp] theorem State.set16_SP_e (w : Word) : (s.set16 .SP w).e = s.e := rfl
@[simp] theorem State.set16_SP_h (w : Word) : (s.set16 .SP w).h = s.h := rfl
@[simp] theorem State.set16_SP_l (w : Word) : (s.set16 .SP w).l = s.l := rfl
@[simp] theorem State.set16_SP_pc (w : Word) : (s.set16 .SP w).pc = s.pc := rfl

/-! The accessors on a named register. -/

@[simp] theorem State.get8_A : s.get8 .A = s.a := rfl
@[simp] theorem State.get8_F : s.get8 .F = s.f := rfl
@[simp] theorem State.get8_B : s.get8 .B = s.b := rfl
@[simp] theorem State.get8_C : s.get8 .C = s.c := rfl
@[simp] theorem State.get8_D : s.get8 .D = s.d := rfl
@[simp] theorem State.get8_E : s.get8 .E = s.e := rfl
@[simp] theorem State.get8_H : s.get8 .H = s.h := rfl
@[simp] theorem State.get8_L : s.get8 .L = s.l := rfl
@[simp] theorem State.get16_AF : s.get16 .AF = cat s.a s.f := rfl
@[simp] theorem State.get16_BC : s.get16 .BC = cat s.b s.c := rfl
@[simp] theorem State.get16_DE : s.get16 .DE = cat s.d s.e := rfl
@[simp] theorem State.get16_HL : s.get16 .HL = cat s.h s.l := rfl
@[simp] theorem State.get16_SP : s.get16 .SP = s.sp := rfl
@[simp] theorem State.get16_PC : s.get16 .PC = s.pc := rfl
theorem State.hl_eq : s.hl = cat s.h s.l := rfl

end Sys2Proof.Machine
end

