-- ==== Sys2Proof/Laws/Bus.lean ====
section
/-! SUPPORT. What the bus operations do: reads see the latest write to the same cell and no other (R31, R32, R51), words are two routed bytes
(R43, R44), and a write keeps the canonical form of memory. -/

namespace Sys2Proof.Machine

theorem region_eq (a : Word) : region a = rangeOf (cellOf a) := rfl

/-- An echo address comes down into working RAM, so no cell is listed under an echo address. -/
theorem cellOf_not_echo (a : Word) : cellOf a ≤ 0xDFFF ∨ 0xFE00 ≤ cellOf a := by
  unfold cellOf unecho
  have := a.isLt
  split
  · left; have : (a - 0x2000).toNat = a.toNat - 0x2000 := by bv_omega
    omega
  · omega

theorem cellOf_lt (a : Word) : cellOf a < 65536 := (unecho a).isLt

theorem isCell_of_region {a : Word} (h : region a ≠ .unmapped) : isCell (cellOf a) = true := by
  have h1 := cellOf_not_echo a
  have h2 := cellOf_lt a
  rw [region_eq] at h
  have h3 : ¬ (0xFEA0 ≤ cellOf a ∧ cellOf a ≤ 0xFEFF) := by
    intro hh
    apply h
    unfold rangeOf
    rw [if_neg (by omega), if_neg (by omega), if_neg (by omega), if_neg (by omega), if_neg (by omega), if_neg (by omega),
      if_pos (by omega)]
  simp only [isCell, decide_eq_true_eq]
  omega

theorem State.isCell_of_writable {s : State} {a : Word} (h : s.writable a = true) : isCell (cellOf a) = true := by
  refine isCell_of_region fun hr => ?_
  simp [State.writable, hr] at h

/-- A cell in 0xA000 to 0xBFFF is cartridge RAM. -/
theorem region_cram {a : Word} (h : 0xA000 ≤ cellOf a ∧ cellOf a ≤ 0xBFFF) : region a = .cram := by
  rw [region_eq]; unfold rangeOf
  rw [if_neg (by omega), if_neg (by omega), if_pos (by omega)]

/-- Reading and writing depend on memory, parameters and the draw counter only. -/
theorem State.read8_congr {s t : State} (hm : t.mem = s.mem) (hp : t.params = s.params) (hd : t.draws = s.draws) (slot : ReadSlot)
    (a : Word) : t.read8 slot a = s.read8 slot a := by
  simp [State.read8, hm, hp, hd]

theorem State.writable_congr {s t : State} (hp : t.params = s.params) (a : Word) : t.writable a = s.writable a := by
  simp [State.writable, hp]

/-- With cartridge RAM present a read depends on memory alone, whichever read of whichever step it is (R50). -/
theorem State.read8_present {s : State} (h : s.params.cartRam = .present) (slot : ReadSlot) (a : Word) :
    s.read8 slot a = if region a = .unmapped then 0x00 else s.mem.get (cellOf a) := by
  unfold State.read8
  cases hr : region a <;> simp [h]

theorem State.tick_present {s : State} (h : s.params.cartRam = .present) : s.tick = s := by simp [State.tick, h]

/-- A byte read after a byte write: the byte written if the cell is the same and the write is stored, else what was there (R31, R32, R37,
R51). -/
theorem State.read8_write8 (s : State) (a b : Word) (v : Byte) (slot : ReadSlot) :
    (s.write8 a v).read8 slot b = if cellOf b = cellOf a ∧ s.writable a = true then v else s.read8 slot b := by
  by_cases hw : s.writable a = true
  · by_cases hc : cellOf b = cellOf a
    · rw [if_pos ⟨hc, hw⟩]
      have hr : region b = region a := by rw [region_eq, region_eq, hc]
      unfold State.read8
      rw [hr, State.write8_mem, if_pos hw, hc, Memory.get_set_same, State.write8_params]
      revert hw; unfold State.writable
      cases hra : region a <;> simp
      intro hp; simp [hp]
    · rw [if_neg fun h => hc h.1]
      unfold State.read8
      rw [State.write8_mem, if_pos hw, Memory.get_set_other _ _ hc, State.write8_params, State.write8_draws]
  · rw [if_neg fun h => hw h.2, State.write8, if_neg hw]

/-- A byte write leaves every other cell alone. -/
theorem State.read8_write8_other {s : State} {a b : Word} (v : Byte) (slot : ReadSlot) (h : cellOf b ≠ cellOf a) :
    (s.write8 a v).read8 slot b = s.read8 slot b := by
  rw [State.read8_write8, if_neg fun hh => h hh.1]

@[simp] theorem State.writable_write8 (s : State) (a b : Word) (v : Byte) : (s.write8 a v).writable b = s.writable b :=
  State.writable_congr (State.write8_params s a v) b

@[simp] theorem State.highAddr?_write8 (s : State) (a b : Word) (v : Byte) : (s.write8 a v).highAddr? b = s.highAddr? b := by
  simp [State.highAddr?]

/-- A word write leaves every cell alone but those of its two bytes. -/
theorem State.read8_write16_other {s : State} {a b : Word} (w : Word) (slot : ReadSlot) (h : cellOf b ≠ cellOf a)
    (h' : ∀ a1, s.highAddr? a = some a1 → cellOf b ≠ cellOf a1) : (s.write16 a w).read8 slot b = s.read8 slot b := by
  unfold State.write16
  dsimp only
  cases hh : s.highAddr? a with
  | none => exact State.read8_write8_other _ _ h
  | some a1 =>
    rw [State.read8_write8_other _ _ (h' a1 hh), State.read8_write8_other _ _ h]

/-- A stored byte keeps the invariant of memory: the canonical form, and no cell in an absent cartridge RAM. -/
theorem State.wf_write8 {s : State} (a : Word) (v : Byte) (h : s.mem.wf = true) : (s.write8 a v).mem.wf = true := by
  rw [State.write8_mem]
  split
  · next hw => exact Memory.wf_set v h (State.isCell_of_writable hw)
  · exact h

theorem State.wf_write16 {s : State} (a w : Word) (h : s.mem.wf = true) : (s.write16 a w).mem.wf = true := by
  unfold State.write16
  dsimp only
  split
  · exact State.wf_write8 _ _ h
  · exact State.wf_write8 _ _ (State.wf_write8 _ _ h)

theorem State.wf_push16 {s : State} (w : Word) (h : s.mem.wf = true) : (s.push16 w).mem.wf = true := State.wf_write16 _ _ h

/-- What a byte write can list anew. -/
theorem State.mem_write8 {s : State} {a : Word} {v : Byte} {c : Host.Cell} (h : c ∈ (s.write8 a v).mem) :
    c ∈ s.mem ∨ (c = (cellOf a, v) ∧ s.writable a = true) := by
  rw [State.write8_mem] at h
  split at h
  · next hw => exact (Memory.mem_set h).elim (fun e => .inr ⟨e, hw⟩) .inl
  · exact .inl h

/-- With `CART_RAM` absent a byte write lists nothing in its range (R34). -/
theorem State.absent_write8 {s : State} (a : Word) (v : Byte) (hp : s.params.cartRam = .absent)
    (h : ∀ c ∈ s.mem, ¬ (0xA000 ≤ c.1 ∧ c.1 ≤ 0xBFFF)) : ∀ c ∈ (s.write8 a v).mem, ¬ (0xA000 ≤ c.1 ∧ c.1 ≤ 0xBFFF) := by
  intro c hc hcr
  rcases State.mem_write8 hc with hc | ⟨rfl, hw⟩
  · exact h c hc hcr
  · simp [State.writable, region_cram hcr, hp] at hw

theorem State.absent_write16 {s : State} (a w : Word) (hp : s.params.cartRam = .absent)
    (h : ∀ c ∈ s.mem, ¬ (0xA000 ≤ c.1 ∧ c.1 ≤ 0xBFFF)) : ∀ c ∈ (s.write16 a w).mem, ¬ (0xA000 ≤ c.1 ∧ c.1 ≤ 0xBFFF) := by
  unfold State.write16
  dsimp only
  split
  · exact State.absent_write8 _ _ hp h
  · exact State.absent_write8 _ _ (by simpa using hp) (State.absent_write8 _ _ hp h)

theorem State.absent_push16 {s : State} (w : Word) (hp : s.params.cartRam = .absent)
    (h : ∀ c ∈ s.mem, ¬ (0xA000 ≤ c.1 ∧ c.1 ≤ 0xBFFF)) : ∀ c ∈ (s.push16 w).mem, ¬ (0xA000 ≤ c.1 ∧ c.1 ≤ 0xBFFF) :=
  State.absent_write16 _ _ hp h

end Sys2Proof.Machine
end

