-- ==== Sys2Proof/Laws/Decode.lean ====
section
/-! SUPPORT. The decoder and the encoder: every row has an encoding, and decoding reads only the bytes its length counts. -/

namespace Sys2Proof.Laws

/-- The default of `encode` is never used. -/
theorem encode?_isSome (i : Instr) : i.variant.encode? = some (encode i) := by
  cases i <;> rfl

/-- Splitting the front off a list of bytes that is long enough. -/
theorem decodeBytes_cons {b0 : Byte} {rest : List Byte} (h : (decode b0 (rest.getD 0 0) (rest.getD 1 0)).encodedLength ≤ rest.length + 1) :
    decodeBytes (b0 :: rest) = .ok (decode b0 (rest.getD 0 0) (rest.getD 1 0),
      rest.drop ((decode b0 (rest.getD 0 0) (rest.getD 1 0)).encodedLength - 1)) := by
  unfold decodeBytes
  dsimp only
  rw [if_neg (by omega)]

/-- Every instruction has 1, 2 or 3 bytes (R60). -/
theorem encodedLength_pos (i : Instr) : 0 < i.encodedLength := by
  unfold Instr.encodedLength Instr.size
  cases i.variant <;> exact Nat.zero_lt_succ _

end Sys2Proof.Laws
end

