-- ==== Sys2Proof/Laws/Dispatch.lean ====
section
/-! SUPPORT. The meaning of an instruction by its variant (R74): 511 rows come down to 63 shapes. Proofs about `exec` go through
`exec_eq_execVariant` and then split on the variant, so no proof splits on the 511 constructors again. -/

namespace Sys2Proof.Laws

open Sys2Proof.Machine

/-- The meaning of a variant: the shared operation its rows call. -/
def execVariant (v : Variant) (s : State) : Outcome :=
  match v with
  | .LD_r_r rd rs => ldReg rd rs s
  | .LD_r_d8 r d => ldImm r d s
  | .LD_r_HLm r => ldFromHL r s
  | .LD_HLm_r r => ldToHL r s
  | .LD_HLm_d8 d => exec_LD_HLm_d8 d s
  | .LD_A_BC => exec_LD_A_BCm s
  | .LD_A_DE => exec_LD_A_DEm s
  | .LD_BC_A => exec_LD_BCm_A s
  | .LD_DE_A => exec_LD_DEm_A s
  | .LD_A_a16 a => exec_LD_A_a16m a s
  | .LD_a16_A a => exec_LD_a16m_A a s
  | .LDH_A_C => exec_LDH_A_Cm s
  | .LDH_C_A => exec_LDH_Cm_A s
  | .LDH_A_a8 o => exec_LDH_A_a8m o s
  | .LDH_a8_A o => exec_LDH_a8m_A o s
  | .LDI_A_HL => exec_LDI_A_HLm s
  | .LDI_HL_A => exec_LDI_HLm_A s
  | .LDD_A_HL => exec_LDD_A_HLm s
  | .LDD_HL_A => exec_LDD_HLm_A s
  | .LD_rr_d16 rr d => ldPairImm rr d s
  | .LD_a16_SP a => exec_LD_a16m_SP a s
  | .LD_SP_HL => exec_LD_SP_HL s
  | .LDHL_SP_e8 e => exec_LDHL_SP_e8 e s
  | .PUSH_rr rr => pushPair rr s
  | .POP_rr rr => popPair rr s
  | .POP_AF => exec_POP_AF s
  | .ALU_s op x => aluLoc op x s
  | .ALU_d8 op d => aluImm op d s
  | .INC_s x => incLoc x s
  | .DEC_s x => decLoc x s
  | .DAA => exec_DAA s
  | .CPL => exec_CPL s
  | .SCF => exec_SCF s
  | .CCF => exec_CCF s
  | .ADD_HL_rr rr => addHL rr s
  | .ADD_SP_e8 e => exec_ADD_SP_e8 e s
  | .INC_rr rr => incPair rr s
  | .DEC_rr rr => decPair rr s
  | .RLCA => exec_RLCA s
  | .RLA => exec_RLA s
  | .RRCA => exec_RRCA s
  | .RRA => exec_RRA s
  | .ROT_s op x => rotLoc op x s
  | .BIT_b_s b x => bitLoc b x s
  | .RES_b_s b x => resLoc b x s
  | .SET_b_s b x => setLoc b x s
  | .JP_a16 a => exec_JP_a16 a s
  | .JP_cc_a16 cc a => jpIf cc a s
  | .JP_HL => exec_JP_HLm s
  | .JR_e8 e => exec_JR_e8 e s
  | .JR_cc_e8 cc e => jrIf cc e s
  | .CALL_a16 a => exec_CALL_a16 a s
  | .CALL_cc_a16 cc a => callIf cc a s
  | .RET => exec_RET s
  | .RET_cc cc => retIf cc s
  | .RETI => exec_RETI s
  | .RST t => rstTo t s
  | .NOP => exec_NOP s
  | .STOP => exec_STOP s
  | .HALT => exec_HALT s
  | .DI => exec_DI s
  | .EI => exec_EI s
  | .ILLEGAL op => illegalOp op s

/-- Executing a row of the table is executing its variant. -/
theorem exec_eq_execVariant (i : Instr) (s : State) : exec i s = execVariant i.variant s := by
  cases i <;> rfl

/-- A halted step does nothing (R19, R20). -/
theorem step_of_halted {s : State} (h : s.halted = true) : step s = .next s := by simp [step, h]

/-- A running step executes the instruction fetched at PC (R19). -/
theorem step_of_running {s : State} (h : s.halted = false) : step s = exec s.fetch s.tick := by simp [step, h]

/-- What a step can do, once: nothing when halted, or the execution of the fetched variant. -/
theorem step_cases {s t : State} (h : step s = .next t) :
    (s.halted = true ∧ t = s) ∨ (s.halted = false ∧ execVariant s.fetch.variant s.tick = .next t) := by
  cases hh : s.halted with
  | true => rw [step_of_halted hh] at h; cases h; exact .inl ⟨rfl, rfl⟩
  | false => rw [step_of_running hh, exec_eq_execVariant] at h; exact .inr ⟨rfl, h⟩

end Sys2Proof.Laws
end

