-- ==== Sys2Proof/Laws/Events.lean ====
section
/-! SUPPORT. What the events of R266 can do: one lemma per event, a sequence of events peeled from the front, and the induction over
sequences packaged once; the mirror bit after a stream of commands. -/

namespace Sys2Proof.Machine

@[simp] theorem act_step (s : State) : act .step s = step s := rfl
@[simp] theorem act_wake (s : State) : act .wake s = .next s.wake := rfl
@[simp] theorem act_observePort (s : State) : act .observePort s = .next s := rfl
@[simp] theorem acts_nil (s : State) : acts [] s = .next s := rfl

/-- A sequence that does not stop: its first event does not, and the rest goes on from there. -/
theorem acts_cons_next {i : HostInput} {rest : List HostInput} {s u : State} :
    acts (i :: rest) s = .next u ↔ ∃ t, act i s = .next t ∧ acts rest t = .next u := by
  simp only [acts]
  cases act i s <;> simp

/-- A relation between states that is reflexive, transitive and holds across every event holds across every sequence of events. -/
theorem acts_relates {R : State → State → Prop} (refl : ∀ s : State, R s s) (trans : ∀ s t u : State, R s t → R t u → R s u)
    (one : ∀ (i : HostInput) (s t : State), act i s = .next t → R s t) {inputs : List HostInput} {s u : State} (h : acts inputs s = .next u) : R s u := by
  induction inputs generalizing s with
  | nil => cases h; exact refl _
  | cons i rest ih =>
    obtain ⟨t, ht, hu⟩ := acts_cons_next.1 h
    exact trans s t u (one i s t ht) (ih hu)

/-! The mirror of R243 after commands. -/

@[simp] theorem PortCommand.mirror_none (old : Bool) : PortCommand.mirror old none = old := rfl
@[simp] theorem PortCommand.mirror_some (old : Bool) (k : PortCommand) : PortCommand.mirror old (some k) = k.enables := by cases k <;> rfl

/-- The mirror after one stream and then another is the mirror after the two joined. -/
theorem PortCommand.mirror_append (old : Bool) (ks ls : List PortCommand) :
    PortCommand.mirror old (ks ++ ls).getLast? = PortCommand.mirror (PortCommand.mirror old ks.getLast?) ls.getLast? := by
  rw [List.getLast?_append]; cases ls.getLast? <;> simp

end Sys2Proof.Machine
end

