-- ==== Sys2Proof/Laws/PerInstr.lean ====
section
/-! SUPPORT. One statement about every row of the opcode table as syntax, row by row: its variant admits its operands (R74), and its encoding
is as long as its size says (R73, R75). -/

namespace Sys2Proof.Laws

/-- The row's variant is well formed and has as many bytes as its size. -/
def Encoded.Statement (i : Instr) : Prop := i.variant.wellFormed = true ∧ (encode i).length = i.encodedLength

namespace Encoded

theorem NOP : Statement .NOP := ⟨rfl, rfl⟩
theorem LD_BC_d16 (d : Word) : Statement (.LD_BC_d16 d) := ⟨rfl, rfl⟩
theorem LD_BCm_A : Statement .LD_BCm_A := ⟨rfl, rfl⟩
theorem INC_BC : Statement .INC_BC := ⟨rfl, rfl⟩
theorem INC_B : Statement .INC_B := ⟨rfl, rfl⟩
theorem DEC_B : Statement .DEC_B := ⟨rfl, rfl⟩
theorem LD_B_d8 (d : Byte) : Statement (.LD_B_d8 d) := ⟨rfl, rfl⟩
theorem RLCA : Statement .RLCA := ⟨rfl, rfl⟩
theorem LD_a16m_SP (a : Word) : Statement (.LD_a16m_SP a) := ⟨rfl, rfl⟩
theorem ADD_HL_BC : Statement .ADD_HL_BC := ⟨rfl, rfl⟩
theorem LD_A_BCm : Statement .LD_A_BCm := ⟨rfl, rfl⟩
theorem DEC_BC : Statement .DEC_BC := ⟨rfl, rfl⟩
theorem INC_C : Statement .INC_C := ⟨rfl, rfl⟩
theorem DEC_C : Statement .DEC_C := ⟨rfl, rfl⟩
theorem LD_C_d8 (d : Byte) : Statement (.LD_C_d8 d) := ⟨rfl, rfl⟩
theorem RRCA : Statement .RRCA := ⟨rfl, rfl⟩
theorem STOP : Statement .STOP := ⟨rfl, rfl⟩
theorem LD_DE_d16 (d : Word) : Statement (.LD_DE_d16 d) := ⟨rfl, rfl⟩
theorem LD_DEm_A : Statement .LD_DEm_A := ⟨rfl, rfl⟩
theorem INC_DE : Statement .INC_DE := ⟨rfl, rfl⟩
theorem INC_D : Statement .INC_D := ⟨rfl, rfl⟩
theorem DEC_D : Statement .DEC_D := ⟨rfl, rfl⟩
theorem LD_D_d8 (d : Byte) : Statement (.LD_D_d8 d) := ⟨rfl, rfl⟩
theorem RLA : Statement .RLA := ⟨rfl, rfl⟩
theorem JR_e8 (e : Byte) : Statement (.JR_e8 e) := ⟨rfl, rfl⟩
theorem ADD_HL_DE : Statement .ADD_HL_DE := ⟨rfl, rfl⟩
theorem LD_A_DEm : Statement .LD_A_DEm := ⟨rfl, rfl⟩
theorem DEC_DE : Statement .DEC_DE := ⟨rfl, rfl⟩
theorem INC_E : Statement .INC_E := ⟨rfl, rfl⟩
theorem DEC_E : Statement .DEC_E := ⟨rfl, rfl⟩
theorem LD_E_d8 (d : Byte) : Statement (.LD_E_d8 d) := ⟨rfl, rfl⟩
theorem RRA : Statement .RRA := ⟨rfl, rfl⟩
theorem JR_NZ_e8 (e : Byte) : Statement (.JR_NZ_e8 e) := ⟨rfl, rfl⟩
theorem LD_HL_d16 (d : Word) : Statement (.LD_HL_d16 d) := ⟨rfl, rfl⟩
theorem LDI_HLm_A : Statement .LDI_HLm_A := ⟨rfl, rfl⟩
theorem INC_HL : Statement .INC_HL := ⟨rfl, rfl⟩
theorem INC_H : Statement .INC_H := ⟨rfl, rfl⟩
theorem DEC_H : Statement .DEC_H := ⟨rfl, rfl⟩
theorem LD_H_d8 (d : Byte) : Statement (.LD_H_d8 d) := ⟨rfl, rfl⟩
theorem DAA : Statement .DAA := ⟨rfl, rfl⟩
theorem JR_Z_e8 (e : Byte) : Statement (.JR_Z_e8 e) := ⟨rfl, rfl⟩
theorem ADD_HL_HL : Statement .ADD_HL_HL := ⟨rfl, rfl⟩
theorem LDI_A_HLm : Statement .LDI_A_HLm := ⟨rfl, rfl⟩
theorem DEC_HL : Statement .DEC_HL := ⟨rfl, rfl⟩
theorem INC_L : Statement .INC_L := ⟨rfl, rfl⟩
theorem DEC_L : Statement .DEC_L := ⟨rfl, rfl⟩
theorem LD_L_d8 (d : Byte) : Statement (.LD_L_d8 d) := ⟨rfl, rfl⟩
theorem CPL : Statement .CPL := ⟨rfl, rfl⟩
theorem JR_NC_e8 (e : Byte) : Statement (.JR_NC_e8 e) := ⟨rfl, rfl⟩
theorem LD_SP_d16 (d : Word) : Statement (.LD_SP_d16 d) := ⟨rfl, rfl⟩
theorem LDD_HLm_A : Statement .LDD_HLm_A := ⟨rfl, rfl⟩
theorem INC_SP : Statement .INC_SP := ⟨rfl, rfl⟩
theorem INC_HLm : Statement .INC_HLm := ⟨rfl, rfl⟩
theorem DEC_HLm : Statement .DEC_HLm := ⟨rfl, rfl⟩
theorem LD_HLm_d8 (d : Byte) : Statement (.LD_HLm_d8 d) := ⟨rfl, rfl⟩
theorem SCF : Statement .SCF := ⟨rfl, rfl⟩
theorem JR_C_e8 (e : Byte) : Statement (.JR_C_e8 e) := ⟨rfl, rfl⟩
theorem ADD_HL_SP : Statement .ADD_HL_SP := ⟨rfl, rfl⟩
theorem LDD_A_HLm : Statement .LDD_A_HLm := ⟨rfl, rfl⟩
theorem DEC_SP : Statement .DEC_SP := ⟨rfl, rfl⟩
theorem INC_A : Statement .INC_A := ⟨rfl, rfl⟩
theorem DEC_A : Statement .DEC_A := ⟨rfl, rfl⟩
theorem LD_A_d8 (d : Byte) : Statement (.LD_A_d8 d) := ⟨rfl, rfl⟩
theorem CCF : Statement .CCF := ⟨rfl, rfl⟩
theorem LD_B_B : Statement .LD_B_B := ⟨rfl, rfl⟩
theorem LD_B_C : Statement .LD_B_C := ⟨rfl, rfl⟩
theorem LD_B_D : Statement .LD_B_D := ⟨rfl, rfl⟩
theorem LD_B_E : Statement .LD_B_E := ⟨rfl, rfl⟩
theorem LD_B_H : Statement .LD_B_H := ⟨rfl, rfl⟩
theorem LD_B_L : Statement .LD_B_L := ⟨rfl, rfl⟩
theorem LD_B_HLm : Statement .LD_B_HLm := ⟨rfl, rfl⟩
theorem LD_B_A : Statement .LD_B_A := ⟨rfl, rfl⟩
theorem LD_C_B : Statement .LD_C_B := ⟨rfl, rfl⟩
theorem LD_C_C : Statement .LD_C_C := ⟨rfl, rfl⟩
theorem LD_C_D : Statement .LD_C_D := ⟨rfl, rfl⟩
theorem LD_C_E : Statement .LD_C_E := ⟨rfl, rfl⟩
theorem LD_C_H : Statement .LD_C_H := ⟨rfl, rfl⟩
theorem LD_C_L : Statement .LD_C_L := ⟨rfl, rfl⟩
theorem LD_C_HLm : Statement .LD_C_HLm := ⟨rfl, rfl⟩
theorem LD_C_A : Statement .LD_C_A := ⟨rfl, rfl⟩
theorem LD_D_B : Statement .LD_D_B := ⟨rfl, rfl⟩
theorem LD_D_C : Statement .LD_D_C := ⟨rfl, rfl⟩
theorem LD_D_D : Statement .LD_D_D := ⟨rfl, rfl⟩
theorem LD_D_E : Statement .LD_D_E := ⟨rfl, rfl⟩
theorem LD_D_H : Statement .LD_D_H := ⟨rfl, rfl⟩
theorem LD_D_L : Statement .LD_D_L := ⟨rfl, rfl⟩
theorem LD_D_HLm : Statement .LD_D_HLm := ⟨rfl, rfl⟩
theorem LD_D_A : Statement .LD_D_A := ⟨rfl, rfl⟩
theorem LD_E_B : Statement .LD_E_B := ⟨rfl, rfl⟩
theorem LD_E_C : Statement .LD_E_C := ⟨rfl, rfl⟩
theorem LD_E_D : Statement .LD_E_D := ⟨rfl, rfl⟩
theorem LD_E_E : Statement .LD_E_E := ⟨rfl, rfl⟩
theorem LD_E_H : Statement .LD_E_H := ⟨rfl, rfl⟩
theorem LD_E_L : Statement .LD_E_L := ⟨rfl, rfl⟩
theorem LD_E_HLm : Statement .LD_E_HLm := ⟨rfl, rfl⟩
theorem LD_E_A : Statement .LD_E_A := ⟨rfl, rfl⟩
theorem LD_H_B : Statement .LD_H_B := ⟨rfl, rfl⟩
theorem LD_H_C : Statement .LD_H_C := ⟨rfl, rfl⟩
theorem LD_H_D : Statement .LD_H_D := ⟨rfl, rfl⟩
theorem LD_H_E : Statement .LD_H_E := ⟨rfl, rfl⟩
theorem LD_H_H : Statement .LD_H_H := ⟨rfl, rfl⟩
theorem LD_H_L : Statement .LD_H_L := ⟨rfl, rfl⟩
theorem LD_H_HLm : Statement .LD_H_HLm := ⟨rfl, rfl⟩
theorem LD_H_A : Statement .LD_H_A := ⟨rfl, rfl⟩
theorem LD_L_B : Statement .LD_L_B := ⟨rfl, rfl⟩
theorem LD_L_C : Statement .LD_L_C := ⟨rfl, rfl⟩
theorem LD_L_D : Statement .LD_L_D := ⟨rfl, rfl⟩
theorem LD_L_E : Statement .LD_L_E := ⟨rfl, rfl⟩
theorem LD_L_H : Statement .LD_L_H := ⟨rfl, rfl⟩
theorem LD_L_L : Statement .LD_L_L := ⟨rfl, rfl⟩
theorem LD_L_HLm : Statement .LD_L_HLm := ⟨rfl, rfl⟩
theorem LD_L_A : Statement .LD_L_A := ⟨rfl, rfl⟩
theorem LD_HLm_B : Statement .LD_HLm_B := ⟨rfl, rfl⟩
theorem LD_HLm_C : Statement .LD_HLm_C := ⟨rfl, rfl⟩
theorem LD_HLm_D : Statement .LD_HLm_D := ⟨rfl, rfl⟩
theorem LD_HLm_E : Statement .LD_HLm_E := ⟨rfl, rfl⟩
theorem LD_HLm_H : Statement .LD_HLm_H := ⟨rfl, rfl⟩
theorem LD_HLm_L : Statement .LD_HLm_L := ⟨rfl, rfl⟩
theorem HALT : Statement .HALT := ⟨rfl, rfl⟩
theorem LD_HLm_A : Statement .LD_HLm_A := ⟨rfl, rfl⟩
theorem LD_A_B : Statement .LD_A_B := ⟨rfl, rfl⟩
theorem LD_A_C : Statement .LD_A_C := ⟨rfl, rfl⟩
theorem LD_A_D : Statement .LD_A_D := ⟨rfl, rfl⟩
theorem LD_A_E : Statement .LD_A_E := ⟨rfl, rfl⟩
theorem LD_A_H : Statement .LD_A_H := ⟨rfl, rfl⟩
theorem LD_A_L : Statement .LD_A_L := ⟨rfl, rfl⟩
theorem LD_A_HLm : Statement .LD_A_HLm := ⟨rfl, rfl⟩
theorem LD_A_A : Statement .LD_A_A := ⟨rfl, rfl⟩
theorem ADD_A_B : Statement .ADD_A_B := ⟨rfl, rfl⟩
theorem ADD_A_C : Statement .ADD_A_C := ⟨rfl, rfl⟩
theorem ADD_A_D : Statement .ADD_A_D := ⟨rfl, rfl⟩
theorem ADD_A_E : Statement .ADD_A_E := ⟨rfl, rfl⟩
theorem ADD_A_H : Statement .ADD_A_H := ⟨rfl, rfl⟩
theorem ADD_A_L : Statement .ADD_A_L := ⟨rfl, rfl⟩
theorem ADD_A_HLm : Statement .ADD_A_HLm := ⟨rfl, rfl⟩
theorem ADD_A_A : Statement .ADD_A_A := ⟨rfl, rfl⟩
theorem ADC_A_B : Statement .ADC_A_B := ⟨rfl, rfl⟩
theorem ADC_A_C : Statement .ADC_A_C := ⟨rfl, rfl⟩
theorem ADC_A_D : Statement .ADC_A_D := ⟨rfl, rfl⟩
theorem ADC_A_E : Statement .ADC_A_E := ⟨rfl, rfl⟩
theorem ADC_A_H : Statement .ADC_A_H := ⟨rfl, rfl⟩
theorem ADC_A_L : Statement .ADC_A_L := ⟨rfl, rfl⟩
theorem ADC_A_HLm : Statement .ADC_A_HLm := ⟨rfl, rfl⟩
theorem ADC_A_A : Statement .ADC_A_A := ⟨rfl, rfl⟩
theorem SUB_B : Statement .SUB_B := ⟨rfl, rfl⟩
theorem SUB_C : Statement .SUB_C := ⟨rfl, rfl⟩
theorem SUB_D : Statement .SUB_D := ⟨rfl, rfl⟩
theorem SUB_E : Statement .SUB_E := ⟨rfl, rfl⟩
theorem SUB_H : Statement .SUB_H := ⟨rfl, rfl⟩
theorem SUB_L : Statement .SUB_L := ⟨rfl, rfl⟩
theorem SUB_HLm : Statement .SUB_HLm := ⟨rfl, rfl⟩
theorem SUB_A : Statement .SUB_A := ⟨rfl, rfl⟩
theorem SBC_A_B : Statement .SBC_A_B := ⟨rfl, rfl⟩
theorem SBC_A_C : Statement .SBC_A_C := ⟨rfl, rfl⟩
theorem SBC_A_D : Statement .SBC_A_D := ⟨rfl, rfl⟩
theorem SBC_A_E : Statement .SBC_A_E := ⟨rfl, rfl⟩
theorem SBC_A_H : Statement .SBC_A_H := ⟨rfl, rfl⟩
theorem SBC_A_L : Statement .SBC_A_L := ⟨rfl, rfl⟩
theorem SBC_A_HLm : Statement .SBC_A_HLm := ⟨rfl, rfl⟩
theorem SBC_A_A : Statement .SBC_A_A := ⟨rfl, rfl⟩
theorem AND_B : Statement .AND_B := ⟨rfl, rfl⟩
theorem AND_C : Statement .AND_C := ⟨rfl, rfl⟩
theorem AND_D : Statement .AND_D := ⟨rfl, rfl⟩
theorem AND_E : Statement .AND_E := ⟨rfl, rfl⟩
theorem AND_H : Statement .AND_H := ⟨rfl, rfl⟩
theorem AND_L : Statement .AND_L := ⟨rfl, rfl⟩
theorem AND_HLm : Statement .AND_HLm := ⟨rfl, rfl⟩
theorem AND_A : Statement .AND_A := ⟨rfl, rfl⟩
theorem XOR_B : Statement .XOR_B := ⟨rfl, rfl⟩
theorem XOR_C : Statement .XOR_C := ⟨rfl, rfl⟩
theorem XOR_D : Statement .XOR_D := ⟨rfl, rfl⟩
theorem XOR_E : Statement .XOR_E := ⟨rfl, rfl⟩
theorem XOR_H : Statement .XOR_H := ⟨rfl, rfl⟩
theorem XOR_L : Statement .XOR_L := ⟨rfl, rfl⟩
theorem XOR_HLm : Statement .XOR_HLm := ⟨rfl, rfl⟩
theorem XOR_A : Statement .XOR_A := ⟨rfl, rfl⟩
theorem OR_B : Statement .OR_B := ⟨rfl, rfl⟩
theorem OR_C : Statement .OR_C := ⟨rfl, rfl⟩
theorem OR_D : Statement .OR_D := ⟨rfl, rfl⟩
theorem OR_E : Statement .OR_E := ⟨rfl, rfl⟩
theorem OR_H : Statement .OR_H := ⟨rfl, rfl⟩
theorem OR_L : Statement .OR_L := ⟨rfl, rfl⟩
theorem OR_HLm : Statement .OR_HLm := ⟨rfl, rfl⟩
theorem OR_A : Statement .OR_A := ⟨rfl, rfl⟩
theorem CP_B : Statement .CP_B := ⟨rfl, rfl⟩
theorem CP_C : Statement .CP_C := ⟨rfl, rfl⟩
theorem CP_D : Statement .CP_D := ⟨rfl, rfl⟩
theorem CP_E : Statement .CP_E := ⟨rfl, rfl⟩
theorem CP_H : Statement .CP_H := ⟨rfl, rfl⟩
theorem CP_L : Statement .CP_L := ⟨rfl, rfl⟩
theorem CP_HLm : Statement .CP_HLm := ⟨rfl, rfl⟩
theorem CP_A : Statement .CP_A := ⟨rfl, rfl⟩
theorem RET_NZ : Statement .RET_NZ := ⟨rfl, rfl⟩
theorem POP_BC : Statement .POP_BC := ⟨rfl, rfl⟩
theorem JP_NZ_a16 (a : Word) : Statement (.JP_NZ_a16 a) := ⟨rfl, rfl⟩
theorem JP_a16 (a : Word) : Statement (.JP_a16 a) := ⟨rfl, rfl⟩
theorem CALL_NZ_a16 (a : Word) : Statement (.CALL_NZ_a16 a) := ⟨rfl, rfl⟩
theorem PUSH_BC : Statement .PUSH_BC := ⟨rfl, rfl⟩
theorem ADD_A_d8 (d : Byte) : Statement (.ADD_A_d8 d) := ⟨rfl, rfl⟩
theorem RST_0x00 : Statement .RST_0x00 := ⟨rfl, rfl⟩
theorem RET_Z : Statement .RET_Z := ⟨rfl, rfl⟩
theorem RET : Statement .RET := ⟨rfl, rfl⟩
theorem JP_Z_a16 (a : Word) : Statement (.JP_Z_a16 a) := ⟨rfl, rfl⟩
theorem CALL_Z_a16 (a : Word) : Statement (.CALL_Z_a16 a) := ⟨rfl, rfl⟩
theorem CALL_a16 (a : Word) : Statement (.CALL_a16 a) := ⟨rfl, rfl⟩
theorem ADC_A_d8 (d : Byte) : Statement (.ADC_A_d8 d) := ⟨rfl, rfl⟩
theorem RST_0x08 : Statement .RST_0x08 := ⟨rfl, rfl⟩
theorem RET_NC : Statement .RET_NC := ⟨rfl, rfl⟩
theorem POP_DE : Statement .POP_DE := ⟨rfl, rfl⟩
theorem JP_NC_a16 (a : Word) : Statement (.JP_NC_a16 a) := ⟨rfl, rfl⟩
theorem ILLEGAL_D3 : Statement .ILLEGAL_D3 := ⟨rfl, rfl⟩
theorem CALL_NC_a16 (a : Word) : Statement (.CALL_NC_a16 a) := ⟨rfl, rfl⟩
theorem PUSH_DE : Statement .PUSH_DE := ⟨rfl, rfl⟩
theorem SUB_d8 (d : Byte) : Statement (.SUB_d8 d) := ⟨rfl, rfl⟩
theorem RST_0x10 : Statement .RST_0x10 := ⟨rfl, rfl⟩
theorem RET_C : Statement .RET_C := ⟨rfl, rfl⟩
theorem RETI : Statement .RETI := ⟨rfl, rfl⟩
theorem JP_C_a16 (a : Word) : Statement (.JP_C_a16 a) := ⟨rfl, rfl⟩
theorem ILLEGAL_DB : Statement .ILLEGAL_DB := ⟨rfl, rfl⟩
theorem CALL_C_a16 (a : Word) : Statement (.CALL_C_a16 a) := ⟨rfl, rfl⟩
theorem ILLEGAL_DD : Statement .ILLEGAL_DD := ⟨rfl, rfl⟩
theorem SBC_A_d8 (d : Byte) : Statement (.SBC_A_d8 d) := ⟨rfl, rfl⟩
theorem RST_0x18 : Statement .RST_0x18 := ⟨rfl, rfl⟩
theorem LDH_a8m_A (o : Byte) : Statement (.LDH_a8m_A o) := ⟨rfl, rfl⟩
theorem POP_HL : Statement .POP_HL := ⟨rfl, rfl⟩
theorem LDH_Cm_A : Statement .LDH_Cm_A := ⟨rfl, rfl⟩
theorem ILLEGAL_E3 : Statement .ILLEGAL_E3 := ⟨rfl, rfl⟩
theorem ILLEGAL_E4 : Statement .ILLEGAL_E4 := ⟨rfl, rfl⟩
theorem PUSH_HL : Statement .PUSH_HL := ⟨rfl, rfl⟩
theorem AND_d8 (d : Byte) : Statement (.AND_d8 d) := ⟨rfl, rfl⟩
theorem RST_0x20 : Statement .RST_0x20 := ⟨rfl, rfl⟩
theorem ADD_SP_e8 (e : Byte) : Statement (.ADD_SP_e8 e) := ⟨rfl, rfl⟩
theorem JP_HLm : Statement .JP_HLm := ⟨rfl, rfl⟩
theorem LD_a16m_A (a : Word) : Statement (.LD_a16m_A a) := ⟨rfl, rfl⟩
theorem ILLEGAL_EB : Statement .ILLEGAL_EB := ⟨rfl, rfl⟩
theorem ILLEGAL_EC : Statement .ILLEGAL_EC := ⟨rfl, rfl⟩
theorem ILLEGAL_ED : Statement .ILLEGAL_ED := ⟨rfl, rfl⟩
theorem XOR_d8 (d : Byte) : Statement (.XOR_d8 d) := ⟨rfl, rfl⟩
theorem RST_0x28 : Statement .RST_0x28 := ⟨rfl, rfl⟩
theorem LDH_A_a8m (o : Byte) : Statement (.LDH_A_a8m o) := ⟨rfl, rfl⟩
theorem POP_AF : Statement .POP_AF := ⟨rfl, rfl⟩
theorem LDH_A_Cm : Statement .LDH_A_Cm := ⟨rfl, rfl⟩
theorem DI : Statement .DI := ⟨rfl, rfl⟩
theorem ILLEGAL_F4 : Statement .ILLEGAL_F4 := ⟨rfl, rfl⟩
theorem PUSH_AF : Statement .PUSH_AF := ⟨rfl, rfl⟩
theorem OR_d8 (d : Byte) : Statement (.OR_d8 d) := ⟨rfl, rfl⟩
theorem RST_0x30 : Statement .RST_0x30 := ⟨rfl, rfl⟩
theorem LDHL_SP_e8 (e : Byte) : Statement (.LDHL_SP_e8 e) := ⟨rfl, rfl⟩
theorem LD_SP_HL : Statement .LD_SP_HL := ⟨rfl, rfl⟩
theorem LD_A_a16m (a : Word) : Statement (.LD_A_a16m a) := ⟨rfl, rfl⟩
theorem EI : Statement .EI := ⟨rfl, rfl⟩
theorem ILLEGAL_FC : Statement .ILLEGAL_FC := ⟨rfl, rfl⟩
theorem ILLEGAL_FD : Statement .ILLEGAL_FD := ⟨rfl, rfl⟩
theorem CP_d8 (d : Byte) : Statement (.CP_d8 d) := ⟨rfl, rfl⟩
theorem RST_0x38 : Statement .RST_0x38 := ⟨rfl, rfl⟩
theorem RLC_B : Statement .RLC_B := ⟨rfl, rfl⟩
theorem RLC_C : Statement .RLC_C := ⟨rfl, rfl⟩
theorem RLC_D : Statement .RLC_D := ⟨rfl, rfl⟩
theorem RLC_E : Statement .RLC_E := ⟨rfl, rfl⟩
theorem RLC_H : Statement .RLC_H := ⟨rfl, rfl⟩
theorem RLC_L : Statement .RLC_L := ⟨rfl, rfl⟩
theorem RLC_HLm : Statement .RLC_HLm := ⟨rfl, rfl⟩
theorem RLC_A : Statement .RLC_A := ⟨rfl, rfl⟩
theorem RRC_B : Statement .RRC_B := ⟨rfl, rfl⟩
theorem RRC_C : Statement .RRC_C := ⟨rfl, rfl⟩
theorem RRC_D : Statement .RRC_D := ⟨rfl, rfl⟩
theorem RRC_E : Statement .RRC_E := ⟨rfl, rfl⟩
theorem RRC_H : Statement .RRC_H := ⟨rfl, rfl⟩
theorem RRC_L : Statement .RRC_L := ⟨rfl, rfl⟩
theorem RRC_HLm : Statement .RRC_HLm := ⟨rfl, rfl⟩
theorem RRC_A : Statement .RRC_A := ⟨rfl, rfl⟩
theorem RL_B : Statement .RL_B := ⟨rfl, rfl⟩
theorem RL_C : Statement .RL_C := ⟨rfl, rfl⟩
theorem RL_D : Statement .RL_D := ⟨rfl, rfl⟩
theorem RL_E : Statement .RL_E := ⟨rfl, rfl⟩
theorem RL_H : Statement .RL_H := ⟨rfl, rfl⟩
theorem RL_L : Statement .RL_L := ⟨rfl, rfl⟩
theorem RL_HLm : Statement .RL_HLm := ⟨rfl, rfl⟩
theorem RL_A : Statement .RL_A := ⟨rfl, rfl⟩
theorem RR_B : Statement .RR_B := ⟨rfl, rfl⟩
theorem RR_C : Statement .RR_C := ⟨rfl, rfl⟩
theorem RR_D : Statement .RR_D := ⟨rfl, rfl⟩
theorem RR_E : Statement .RR_E := ⟨rfl, rfl⟩
theorem RR_H : Statement .RR_H := ⟨rfl, rfl⟩
theorem RR_L : Statement .RR_L := ⟨rfl, rfl⟩
theorem RR_HLm : Statement .RR_HLm := ⟨rfl, rfl⟩
theorem RR_A : Statement .RR_A := ⟨rfl, rfl⟩
theorem SLA_B : Statement .SLA_B := ⟨rfl, rfl⟩
theorem SLA_C : Statement .SLA_C := ⟨rfl, rfl⟩
theorem SLA_D : Statement .SLA_D := ⟨rfl, rfl⟩
theorem SLA_E : Statement .SLA_E := ⟨rfl, rfl⟩
theorem SLA_H : Statement .SLA_H := ⟨rfl, rfl⟩
theorem SLA_L : Statement .SLA_L := ⟨rfl, rfl⟩
theorem SLA_HLm : Statement .SLA_HLm := ⟨rfl, rfl⟩
theorem SLA_A : Statement .SLA_A := ⟨rfl, rfl⟩
theorem SRA_B : Statement .SRA_B := ⟨rfl, rfl⟩
theorem SRA_C : Statement .SRA_C := ⟨rfl, rfl⟩
theorem SRA_D : Statement .SRA_D := ⟨rfl, rfl⟩
theorem SRA_E : Statement .SRA_E := ⟨rfl, rfl⟩
theorem SRA_H : Statement .SRA_H := ⟨rfl, rfl⟩
theorem SRA_L : Statement .SRA_L := ⟨rfl, rfl⟩
theorem SRA_HLm : Statement .SRA_HLm := ⟨rfl, rfl⟩
theorem SRA_A : Statement .SRA_A := ⟨rfl, rfl⟩
theorem SWAP_B : Statement .SWAP_B := ⟨rfl, rfl⟩
theorem SWAP_C : Statement .SWAP_C := ⟨rfl, rfl⟩
theorem SWAP_D : Statement .SWAP_D := ⟨rfl, rfl⟩
theorem SWAP_E : Statement .SWAP_E := ⟨rfl, rfl⟩
theorem SWAP_H : Statement .SWAP_H := ⟨rfl, rfl⟩
theorem SWAP_L : Statement .SWAP_L := ⟨rfl, rfl⟩
theorem SWAP_HLm : Statement .SWAP_HLm := ⟨rfl, rfl⟩
theorem SWAP_A : Statement .SWAP_A := ⟨rfl, rfl⟩
theorem SRL_B : Statement .SRL_B := ⟨rfl, rfl⟩
theorem SRL_C : Statement .SRL_C := ⟨rfl, rfl⟩
theorem SRL_D : Statement .SRL_D := ⟨rfl, rfl⟩
theorem SRL_E : Statement .SRL_E := ⟨rfl, rfl⟩
theorem SRL_H : Statement .SRL_H := ⟨rfl, rfl⟩
theorem SRL_L : Statement .SRL_L := ⟨rfl, rfl⟩
theorem SRL_HLm : Statement .SRL_HLm := ⟨rfl, rfl⟩
theorem SRL_A : Statement .SRL_A := ⟨rfl, rfl⟩
theorem BIT_0_B : Statement .BIT_0_B := ⟨rfl, rfl⟩
theorem BIT_0_C : Statement .BIT_0_C := ⟨rfl, rfl⟩
theorem BIT_0_D : Statement .BIT_0_D := ⟨rfl, rfl⟩
theorem BIT_0_E : Statement .BIT_0_E := ⟨rfl, rfl⟩
theorem BIT_0_H : Statement .BIT_0_H := ⟨rfl, rfl⟩
theorem BIT_0_L : Statement .BIT_0_L := ⟨rfl, rfl⟩
theorem BIT_0_HLm : Statement .BIT_0_HLm := ⟨rfl, rfl⟩
theorem BIT_0_A : Statement .BIT_0_A := ⟨rfl, rfl⟩
theorem BIT_1_B : Statement .BIT_1_B := ⟨rfl, rfl⟩
theorem BIT_1_C : Statement .BIT_1_C := ⟨rfl, rfl⟩
theorem BIT_1_D : Statement .BIT_1_D := ⟨rfl, rfl⟩
theorem BIT_1_E : Statement .BIT_1_E := ⟨rfl, rfl⟩
theorem BIT_1_H : Statement .BIT_1_H := ⟨rfl, rfl⟩
theorem BIT_1_L : Statement .BIT_1_L := ⟨rfl, rfl⟩
theorem BIT_1_HLm : Statement .BIT_1_HLm := ⟨rfl, rfl⟩
theorem BIT_1_A : Statement .BIT_1_A := ⟨rfl, rfl⟩
theorem BIT_2_B : Statement .BIT_2_B := ⟨rfl, rfl⟩
theorem BIT_2_C : Statement .BIT_2_C := ⟨rfl, rfl⟩
theorem BIT_2_D : Statement .BIT_2_D := ⟨rfl, rfl⟩
theorem BIT_2_E : Statement .BIT_2_E := ⟨rfl, rfl⟩
theorem BIT_2_H : Statement .BIT_2_H := ⟨rfl, rfl⟩
theorem BIT_2_L : Statement .BIT_2_L := ⟨rfl, rfl⟩
theorem BIT_2_HLm : Statement .BIT_2_HLm := ⟨rfl, rfl⟩
theorem BIT_2_A : Statement .BIT_2_A := ⟨rfl, rfl⟩
theorem BIT_3_B : Statement .BIT_3_B := ⟨rfl, rfl⟩
theorem BIT_3_C : Statement .BIT_3_C := ⟨rfl, rfl⟩
theorem BIT_3_D : Statement .BIT_3_D := ⟨rfl, rfl⟩
theorem BIT_3_E : Statement .BIT_3_E := ⟨rfl, rfl⟩
theorem BIT_3_H : Statement .BIT_3_H := ⟨rfl, rfl⟩
theorem BIT_3_L : Statement .BIT_3_L := ⟨rfl, rfl⟩
theorem BIT_3_HLm : Statement .BIT_3_HLm := ⟨rfl, rfl⟩
theorem BIT_3_A : Statement .BIT_3_A := ⟨rfl, rfl⟩
theorem BIT_4_B : Statement .BIT_4_B := ⟨rfl, rfl⟩
theorem BIT_4_C : Statement .BIT_4_C := ⟨rfl, rfl⟩
theorem BIT_4_D : Statement .BIT_4_D := ⟨rfl, rfl⟩
theorem BIT_4_E : Statement .BIT_4_E := ⟨rfl, rfl⟩
theorem BIT_4_H : Statement .BIT_4_H := ⟨rfl, rfl⟩
theorem BIT_4_L : Statement .BIT_4_L := ⟨rfl, rfl⟩
theorem BIT_4_HLm : Statement .BIT_4_HLm := ⟨rfl, rfl⟩
theorem BIT_4_A : Statement .BIT_4_A := ⟨rfl, rfl⟩
theorem BIT_5_B : Statement .BIT_5_B := ⟨rfl, rfl⟩
theorem BIT_5_C : Statement .BIT_5_C := ⟨rfl, rfl⟩
theorem BIT_5_D : Statement .BIT_5_D := ⟨rfl, rfl⟩
theorem BIT_5_E : Statement .BIT_5_E := ⟨rfl, rfl⟩
theorem BIT_5_H : Statement .BIT_5_H := ⟨rfl, rfl⟩
theorem BIT_5_L : Statement .BIT_5_L := ⟨rfl, rfl⟩
theorem BIT_5_HLm : Statement .BIT_5_HLm := ⟨rfl, rfl⟩
theorem BIT_5_A : Statement .BIT_5_A := ⟨rfl, rfl⟩
theorem BIT_6_B : Statement .BIT_6_B := ⟨rfl, rfl⟩
theorem BIT_6_C : Statement .BIT_6_C := ⟨rfl, rfl⟩
theorem BIT_6_D : Statement .BIT_6_D := ⟨rfl, rfl⟩
theorem BIT_6_E : Statement .BIT_6_E := ⟨rfl, rfl⟩
theorem BIT_6_H : Statement .BIT_6_H := ⟨rfl, rfl⟩
theorem BIT_6_L : Statement .BIT_6_L := ⟨rfl, rfl⟩
theorem BIT_6_HLm : Statement .BIT_6_HLm := ⟨rfl, rfl⟩
theorem BIT_6_A : Statement .BIT_6_A := ⟨rfl, rfl⟩
theorem BIT_7_B : Statement .BIT_7_B := ⟨rfl, rfl⟩
theorem BIT_7_C : Statement .BIT_7_C := ⟨rfl, rfl⟩
theorem BIT_7_D : Statement .BIT_7_D := ⟨rfl, rfl⟩
theorem BIT_7_E : Statement .BIT_7_E := ⟨rfl, rfl⟩
theorem BIT_7_H : Statement .BIT_7_H := ⟨rfl, rfl⟩
theorem BIT_7_L : Statement .BIT_7_L := ⟨rfl, rfl⟩
theorem BIT_7_HLm : Statement .BIT_7_HLm := ⟨rfl, rfl⟩
theorem BIT_7_A : Statement .BIT_7_A := ⟨rfl, rfl⟩
theorem RES_0_B : Statement .RES_0_B := ⟨rfl, rfl⟩
theorem RES_0_C : Statement .RES_0_C := ⟨rfl, rfl⟩
theorem RES_0_D : Statement .RES_0_D := ⟨rfl, rfl⟩
theorem RES_0_E : Statement .RES_0_E := ⟨rfl, rfl⟩
theorem RES_0_H : Statement .RES_0_H := ⟨rfl, rfl⟩
theorem RES_0_L : Statement .RES_0_L := ⟨rfl, rfl⟩
theorem RES_0_HLm : Statement .RES_0_HLm := ⟨rfl, rfl⟩
theorem RES_0_A : Statement .RES_0_A := ⟨rfl, rfl⟩
theorem RES_1_B : Statement .RES_1_B := ⟨rfl, rfl⟩
theorem RES_1_C : Statement .RES_1_C := ⟨rfl, rfl⟩
theorem RES_1_D : Statement .RES_1_D := ⟨rfl, rfl⟩
theorem RES_1_E : Statement .RES_1_E := ⟨rfl, rfl⟩
theorem RES_1_H : Statement .RES_1_H := ⟨rfl, rfl⟩
theorem RES_1_L : Statement .RES_1_L := ⟨rfl, rfl⟩
theorem RES_1_HLm : Statement .RES_1_HLm := ⟨rfl, rfl⟩
theorem RES_1_A : Statement .RES_1_A := ⟨rfl, rfl⟩
theorem RES_2_B : Statement .RES_2_B := ⟨rfl, rfl⟩
theorem RES_2_C : Statement .RES_2_C := ⟨rfl, rfl⟩
theorem RES_2_D : Statement .RES_2_D := ⟨rfl, rfl⟩
theorem RES_2_E : Statement .RES_2_E := ⟨rfl, rfl⟩
theorem RES_2_H : Statement .RES_2_H := ⟨rfl, rfl⟩
theorem RES_2_L : Statement .RES_2_L := ⟨rfl, rfl⟩
theorem RES_2_HLm : Statement .RES_2_HLm := ⟨rfl, rfl⟩
theorem RES_2_A : Statement .RES_2_A := ⟨rfl, rfl⟩
theorem RES_3_B : Statement .RES_3_B := ⟨rfl, rfl⟩
theorem RES_3_C : Statement .RES_3_C := ⟨rfl, rfl⟩
theorem RES_3_D : Statement .RES_3_D := ⟨rfl, rfl⟩
theorem RES_3_E : Statement .RES_3_E := ⟨rfl, rfl⟩
theorem RES_3_H : Statement .RES_3_H := ⟨rfl, rfl⟩
theorem RES_3_L : Statement .RES_3_L := ⟨rfl, rfl⟩
theorem RES_3_HLm : Statement .RES_3_HLm := ⟨rfl, rfl⟩
theorem RES_3_A : Statement .RES_3_A := ⟨rfl, rfl⟩
theorem RES_4_B : Statement .RES_4_B := ⟨rfl, rfl⟩
theorem RES_4_C : Statement .RES_4_C := ⟨rfl, rfl⟩
theorem RES_4_D : Statement .RES_4_D := ⟨rfl, rfl⟩
theorem RES_4_E : Statement .RES_4_E := ⟨rfl, rfl⟩
theorem RES_4_H : Statement .RES_4_H := ⟨rfl, rfl⟩
theorem RES_4_L : Statement .RES_4_L := ⟨rfl, rfl⟩
theorem RES_4_HLm : Statement .RES_4_HLm := ⟨rfl, rfl⟩
theorem RES_4_A : Statement .RES_4_A := ⟨rfl, rfl⟩
theorem RES_5_B : Statement .RES_5_B := ⟨rfl, rfl⟩
theorem RES_5_C : Statement .RES_5_C := ⟨rfl, rfl⟩
theorem RES_5_D : Statement .RES_5_D := ⟨rfl, rfl⟩
theorem RES_5_E : Statement .RES_5_E := ⟨rfl, rfl⟩
theorem RES_5_H : Statement .RES_5_H := ⟨rfl, rfl⟩
theorem RES_5_L : Statement .RES_5_L := ⟨rfl, rfl⟩
theorem RES_5_HLm : Statement .RES_5_HLm := ⟨rfl, rfl⟩
theorem RES_5_A : Statement .RES_5_A := ⟨rfl, rfl⟩
theorem RES_6_B : Statement .RES_6_B := ⟨rfl, rfl⟩
theorem RES_6_C : Statement .RES_6_C := ⟨rfl, rfl⟩
theorem RES_6_D : Statement .RES_6_D := ⟨rfl, rfl⟩
theorem RES_6_E : Statement .RES_6_E := ⟨rfl, rfl⟩
theorem RES_6_H : Statement .RES_6_H := ⟨rfl, rfl⟩
theorem RES_6_L : Statement .RES_6_L := ⟨rfl, rfl⟩
theorem RES_6_HLm : Statement .RES_6_HLm := ⟨rfl, rfl⟩
theorem RES_6_A : Statement .RES_6_A := ⟨rfl, rfl⟩
theorem RES_7_B : Statement .RES_7_B := ⟨rfl, rfl⟩
theorem RES_7_C : Statement .RES_7_C := ⟨rfl, rfl⟩
theorem RES_7_D : Statement .RES_7_D := ⟨rfl, rfl⟩
theorem RES_7_E : Statement .RES_7_E := ⟨rfl, rfl⟩
theorem RES_7_H : Statement .RES_7_H := ⟨rfl, rfl⟩
theorem RES_7_L : Statement .RES_7_L := ⟨rfl, rfl⟩
theorem RES_7_HLm : Statement .RES_7_HLm := ⟨rfl, rfl⟩
theorem RES_7_A : Statement .RES_7_A := ⟨rfl, rfl⟩
theorem SET_0_B : Statement .SET_0_B := ⟨rfl, rfl⟩
theorem SET_0_C : Statement .SET_0_C := ⟨rfl, rfl⟩
theorem SET_0_D : Statement .SET_0_D := ⟨rfl, rfl⟩
theorem SET_0_E : Statement .SET_0_E := ⟨rfl, rfl⟩
theorem SET_0_H : Statement .SET_0_H := ⟨rfl, rfl⟩
theorem SET_0_L : Statement .SET_0_L := ⟨rfl, rfl⟩
theorem SET_0_HLm : Statement .SET_0_HLm := ⟨rfl, rfl⟩
theorem SET_0_A : Statement .SET_0_A := ⟨rfl, rfl⟩
theorem SET_1_B : Statement .SET_1_B := ⟨rfl, rfl⟩
theorem SET_1_C : Statement .SET_1_C := ⟨rfl, rfl⟩
theorem SET_1_D : Statement .SET_1_D := ⟨rfl, rfl⟩
theorem SET_1_E : Statement .SET_1_E := ⟨rfl, rfl⟩
theorem SET_1_H : Statement .SET_1_H := ⟨rfl, rfl⟩
theorem SET_1_L : Statement .SET_1_L := ⟨rfl, rfl⟩
theorem SET_1_HLm : Statement .SET_1_HLm := ⟨rfl, rfl⟩
theorem SET_1_A : Statement .SET_1_A := ⟨rfl, rfl⟩
theorem SET_2_B : Statement .SET_2_B := ⟨rfl, rfl⟩
theorem SET_2_C : Statement .SET_2_C := ⟨rfl, rfl⟩
theorem SET_2_D : Statement .SET_2_D := ⟨rfl, rfl⟩
theorem SET_2_E : Statement .SET_2_E := ⟨rfl, rfl⟩
theorem SET_2_H : Statement .SET_2_H := ⟨rfl, rfl⟩
theorem SET_2_L : Statement .SET_2_L := ⟨rfl, rfl⟩
theorem SET_2_HLm : Statement .SET_2_HLm := ⟨rfl, rfl⟩
theorem SET_2_A : Statement .SET_2_A := ⟨rfl, rfl⟩
theorem SET_3_B : Statement .SET_3_B := ⟨rfl, rfl⟩
theorem SET_3_C : Statement .SET_3_C := ⟨rfl, rfl⟩
theorem SET_3_D : Statement .SET_3_D := ⟨rfl, rfl⟩
theorem SET_3_E : Statement .SET_3_E := ⟨rfl, rfl⟩
theorem SET_3_H : Statement .SET_3_H := ⟨rfl, rfl⟩
theorem SET_3_L : Statement .SET_3_L := ⟨rfl, rfl⟩
theorem SET_3_HLm : Statement .SET_3_HLm := ⟨rfl, rfl⟩
theorem SET_3_A : Statement .SET_3_A := ⟨rfl, rfl⟩
theorem SET_4_B : Statement .SET_4_B := ⟨rfl, rfl⟩
theorem SET_4_C : Statement .SET_4_C := ⟨rfl, rfl⟩
theorem SET_4_D : Statement .SET_4_D := ⟨rfl, rfl⟩
theorem SET_4_E : Statement .SET_4_E := ⟨rfl, rfl⟩
theorem SET_4_H : Statement .SET_4_H := ⟨rfl, rfl⟩
theorem SET_4_L : Statement .SET_4_L := ⟨rfl, rfl⟩
theorem SET_4_HLm : Statement .SET_4_HLm := ⟨rfl, rfl⟩
theorem SET_4_A : Statement .SET_4_A := ⟨rfl, rfl⟩
theorem SET_5_B : Statement .SET_5_B := ⟨rfl, rfl⟩
theorem SET_5_C : Statement .SET_5_C := ⟨rfl, rfl⟩
theorem SET_5_D : Statement .SET_5_D := ⟨rfl, rfl⟩
theorem SET_5_E : Statement .SET_5_E := ⟨rfl, rfl⟩
theorem SET_5_H : Statement .SET_5_H := ⟨rfl, rfl⟩
theorem SET_5_L : Statement .SET_5_L := ⟨rfl, rfl⟩
theorem SET_5_HLm : Statement .SET_5_HLm := ⟨rfl, rfl⟩
theorem SET_5_A : Statement .SET_5_A := ⟨rfl, rfl⟩
theorem SET_6_B : Statement .SET_6_B := ⟨rfl, rfl⟩
theorem SET_6_C : Statement .SET_6_C := ⟨rfl, rfl⟩
theorem SET_6_D : Statement .SET_6_D := ⟨rfl, rfl⟩
theorem SET_6_E : Statement .SET_6_E := ⟨rfl, rfl⟩
theorem SET_6_H : Statement .SET_6_H := ⟨rfl, rfl⟩
theorem SET_6_L : Statement .SET_6_L := ⟨rfl, rfl⟩
theorem SET_6_HLm : Statement .SET_6_HLm := ⟨rfl, rfl⟩
theorem SET_6_A : Statement .SET_6_A := ⟨rfl, rfl⟩
theorem SET_7_B : Statement .SET_7_B := ⟨rfl, rfl⟩
theorem SET_7_C : Statement .SET_7_C := ⟨rfl, rfl⟩
theorem SET_7_D : Statement .SET_7_D := ⟨rfl, rfl⟩
theorem SET_7_E : Statement .SET_7_E := ⟨rfl, rfl⟩
theorem SET_7_H : Statement .SET_7_H := ⟨rfl, rfl⟩
theorem SET_7_L : Statement .SET_7_L := ⟨rfl, rfl⟩
theorem SET_7_HLm : Statement .SET_7_HLm := ⟨rfl, rfl⟩
theorem SET_7_A : Statement .SET_7_A := ⟨rfl, rfl⟩

end Encoded

end Sys2Proof.Laws
end

