-- ==== Sys2Proof/Laws/Shared.lean ====
section
/-! SUPPORT. What the operations shared by the meanings do to each field: the operand write `writeLoc`, the eight ALU operations, the HL step
of LDI and LDD; and that states with equal fields are equal. -/

namespace Sys2Proof.Machine

/-- Two states are equal when their fields are. -/
theorem State.ext_fields {s t : State} (ha : s.a = t.a) (hf : s.f = t.f) (hb : s.b = t.b) (hc : s.c = t.c) (hd : s.d = t.d) (he : s.e = t.e)
    (hh : s.h = t.h) (hl : s.l = t.l) (hsp : s.sp = t.sp) (hpc : s.pc = t.pc) (hhalted : s.halted = t.halted) (hime : s.ime = t.ime)
    (hcommands : s.commands = t.commands) (hmem : s.mem = t.mem) (hparams : s.params = t.params) (hdraws : s.draws = t.draws) : s = t := by
  cases s; cases t; simp_all

variable (s : State)

/-! An operand write changes one byte register or memory, nothing else. -/

@[simp] theorem State.writeLoc_sp (x : Loc8) (v : Byte) : (s.writeLoc x v).sp = s.sp := by
  cases x <;> simp [State.writeLoc]
@[simp] theorem State.writeLoc_pc (x : Loc8) (v : Byte) : (s.writeLoc x v).pc = s.pc := by
  cases x <;> simp [State.writeLoc]
@[simp] theorem State.writeLoc_halted (x : Loc8) (v : Byte) : (s.writeLoc x v).halted = s.halted := by
  cases x <;> simp [State.writeLoc]
@[simp] theorem State.writeLoc_ime (x : Loc8) (v : Byte) : (s.writeLoc x v).ime = s.ime := by
  cases x <;> simp [State.writeLoc]
@[simp] theorem State.writeLoc_commands (x : Loc8) (v : Byte) : (s.writeLoc x v).commands = s.commands := by
  cases x <;> simp [State.writeLoc]
@[simp] theorem State.writeLoc_params (x : Loc8) (v : Byte) : (s.writeLoc x v).params = s.params := by
  cases x <;> simp [State.writeLoc]
@[simp] theorem State.writeLoc_draws (x : Loc8) (v : Byte) : (s.writeLoc x v).draws = s.draws := by
  cases x <;> simp [State.writeLoc]

/-- An operand of table `r` is not F (R64). -/
theorem State.writeLoc_f {x : Loc8} (v : Byte) (h : x.inTableR = true) : (s.writeLoc x v).f = s.f := by
  cases x with
  | HLm => simp [State.writeLoc]
  | reg r => cases r <;> simp_all [State.writeLoc, Loc8.inTableR, Reg8.inTableR]

/-! The step of HL after LDI and LDD. -/

@[simp] theorem State.bumpHL_a (d : Word) : (s.bumpHL d).a = s.a := rfl
@[simp] theorem State.bumpHL_f (d : Word) : (s.bumpHL d).f = s.f := rfl
@[simp] theorem State.bumpHL_b (d : Word) : (s.bumpHL d).b = s.b := rfl
@[simp] theorem State.bumpHL_c (d : Word) : (s.bumpHL d).c = s.c := rfl
@[simp] theorem State.bumpHL_d (d : Word) : (s.bumpHL d).d = s.d := rfl
@[simp] theorem State.bumpHL_e (d : Word) : (s.bumpHL d).e = s.e := rfl
@[simp] theorem State.bumpHL_sp (d : Word) : (s.bumpHL d).sp = s.sp := rfl
@[simp] theorem State.bumpHL_pc (d : Word) : (s.bumpHL d).pc = s.pc := rfl
@[simp] theorem State.bumpHL_halted (d : Word) : (s.bumpHL d).halted = s.halted := rfl
@[simp] theorem State.bumpHL_ime (d : Word) : (s.bumpHL d).ime = s.ime := rfl
@[simp] theorem State.bumpHL_commands (d : Word) : (s.bumpHL d).commands = s.commands := rfl
@[simp] theorem State.bumpHL_mem (d : Word) : (s.bumpHL d).mem = s.mem := rfl
@[simp] theorem State.bumpHL_params (d : Word) : (s.bumpHL d).params = s.params := rfl
@[simp] theorem State.bumpHL_draws (d : Word) : (s.bumpHL d).draws = s.draws := rfl
@[simp] theorem State.bumpHL_h (d : Word) : (s.bumpHL d).h = hi8 (s.hl + d) := rfl
@[simp] theorem State.bumpHL_l (d : Word) : (s.bumpHL d).l = lo8 (s.hl + d) := rfl

/-! The eight ALU operations write A and F only, CP F only. -/

@[simp] theorem aluApply_b (op : AluOp) (v : Byte) : (aluApply op v s).b = s.b := by cases op <;> rfl
@[simp] theorem aluApply_c (op : AluOp) (v : Byte) : (aluApply op v s).c = s.c := by cases op <;> rfl
@[simp] theorem aluApply_d (op : AluOp) (v : Byte) : (aluApply op v s).d = s.d := by cases op <;> rfl
@[simp] theorem aluApply_e (op : AluOp) (v : Byte) : (aluApply op v s).e = s.e := by cases op <;> rfl
@[simp] theorem aluApply_h (op : AluOp) (v : Byte) : (aluApply op v s).h = s.h := by cases op <;> rfl
@[simp] theorem aluApply_l (op : AluOp) (v : Byte) : (aluApply op v s).l = s.l := by cases op <;> rfl
@[simp] theorem aluApply_sp (op : AluOp) (v : Byte) : (aluApply op v s).sp = s.sp := by cases op <;> rfl
@[simp] theorem aluApply_pc (op : AluOp) (v : Byte) : (aluApply op v s).pc = s.pc := by cases op <;> rfl
@[simp] theorem aluApply_halted (op : AluOp) (v : Byte) : (aluApply op v s).halted = s.halted := by cases op <;> rfl
@[simp] theorem aluApply_ime (op : AluOp) (v : Byte) : (aluApply op v s).ime = s.ime := by cases op <;> rfl
@[simp] theorem aluApply_commands (op : AluOp) (v : Byte) : (aluApply op v s).commands = s.commands := by cases op <;> rfl
@[simp] theorem aluApply_mem (op : AluOp) (v : Byte) : (aluApply op v s).mem = s.mem := by cases op <;> rfl
@[simp] theorem aluApply_params (op : AluOp) (v : Byte) : (aluApply op v s).params = s.params := by cases op <;> rfl
@[simp] theorem aluApply_draws (op : AluOp) (v : Byte) : (aluApply op v s).draws = s.draws := by cases op <;> rfl
@[simp] theorem aluApply_CP_a (v : Byte) : (aluApply .CP v s).a = s.a := rfl

end Sys2Proof.Machine
end

