-- ==== Sys2Proof/Tests/Slice0.lean ====
section
/-! SUPPORT. The model's own tests: the smoke test of WellFormed, every row decoded from a word written out bit by bit, the vectors of
spec/95_test_vectors.md (one step each), and a witness for the hypotheses of every obligation. -/

namespace Sys2Proof.Machine

/-- `s` with bytes stored into cells, for tests. -/
def State.cells (s : State) (cs : List Host.Cell) : State := { s with mem := cs.foldl (fun m c => m.set c.1 c.2) s.mem }

end Sys2Proof.Machine

namespace Sys2Proof.Tests

open Sys2Proof.Machine Sys2Proof.Claims

/-! ## Ill-formed terms are refused, one per check (R11, R64, R65, R69, R72) -/

theorem test_wellFormed_refuses_F_in_table_r :
    Variant.wellFormed (.LD_r_r .F .A) = false ∧ Variant.wellFormed (.LD_r_r .A .F) = false ∧ Variant.wellFormed (.LD_r_d8 .F 0x12) = false ∧
    Variant.wellFormed (.LD_r_HLm .F) = false ∧ Variant.wellFormed (.LD_HLm_r .F) = false ∧
    Variant.wellFormed (.ALU_s .ADD (.reg .F)) = false ∧ Variant.wellFormed (.INC_s (.reg .F)) = false ∧
    Variant.wellFormed (.DEC_s (.reg .F)) = false ∧ Variant.wellFormed (.ROT_s .SWAP (.reg .F)) = false ∧
    Variant.wellFormed (.BIT_b_s 0 (.reg .F)) = false ∧ Variant.wellFormed (.RES_b_s 7 (.reg .F)) = false ∧
    Variant.wellFormed (.SET_b_s 3 (.reg .F)) = false := by decide

theorem test_wellFormed_refuses_AF_in_table_rp :
    Variant.wellFormed (.LD_rr_d16 .AF 0x1234) = false ∧ Variant.wellFormed (.ADD_HL_rr .AF) = false ∧
    Variant.wellFormed (.INC_rr .AF) = false ∧ Variant.wellFormed (.DEC_rr .PC) = false := by decide

theorem test_wellFormed_refuses_SP_in_table_rp2 :
    Variant.wellFormed (.PUSH_rr .SP) = false ∧ Variant.wellFormed (.POP_rr .PC) = false := by decide

/-- POP AF is a variant of its own (R127). -/
theorem test_wellFormed_refuses_AF_in_POP_rr : Variant.wellFormed (.POP_rr .AF) = false := by decide

theorem test_wellFormed_refuses_other_RST_targets : Variant.wellFormed (.RST 0x04) = false ∧ Variant.wellFormed (.RST 0x40) = false := by decide

theorem test_wellFormed_refuses_assigned_bytes_as_ILLEGAL :
    Variant.wellFormed (.ILLEGAL 0x00) = false ∧ Variant.wellFormed (.ILLEGAL 0xCB) = false := by decide

theorem test_launch_refuses_low_bits_of_F : Launch.wellFormed { f := 0xB1 } = false := by decide

/-- A cell out of order, a cell twice, a cell of the echo, of the unmapped range, beyond the address space, and a cell that reads as an
unlisted one. -/
theorem test_memory_refuses_other_forms :
    Memory.wf [(0xC001, 1), (0xC000, 1)] = false ∧ Memory.wf [(0xC000, 1), (0xC000, 2)] = false ∧ Memory.wf [(0xE000, 1)] = false ∧
    Memory.wf [(0xFEA0, 1)] = false ∧ Memory.wf [(0x10000, 1)] = false ∧ Memory.wf [(0xC000, 0)] = false ∧
    Memory.wf [(0x0000, 1), (0xDFFF, 2), (0xFE00, 3), (0xFFFF, 4)] = true := by decide

/-! ## Decoding: the words of the spec's encodings, all 511 rows. Operand bytes 0x34, 0x12 -/

/-- R100. -/
theorem test_decode_LD_r_r :
    ([
      0b01_000_000, 0b01_000_001, 0b01_000_010, 0b01_000_011, 0b01_000_100, 0b01_000_101, 0b01_000_111, 0b01_001_000, 0b01_001_001,
      0b01_001_010, 0b01_001_011, 0b01_001_100, 0b01_001_101, 0b01_001_111, 0b01_010_000, 0b01_010_001, 0b01_010_010, 0b01_010_011,
      0b01_010_100, 0b01_010_101, 0b01_010_111, 0b01_011_000, 0b01_011_001, 0b01_011_010, 0b01_011_011, 0b01_011_100, 0b01_011_101,
      0b01_011_111, 0b01_100_000, 0b01_100_001, 0b01_100_010, 0b01_100_011, 0b01_100_100, 0b01_100_101, 0b01_100_111, 0b01_101_000,
      0b01_101_001, 0b01_101_010, 0b01_101_011, 0b01_101_100, 0b01_101_101, 0b01_101_111, 0b01_111_000, 0b01_111_001, 0b01_111_010,
      0b01_111_011, 0b01_111_100, 0b01_111_101, 0b01_111_111] : List Byte).map (decode · 0x34 0x12) = [
      .LD_B_B, .LD_B_C, .LD_B_D, .LD_B_E, .LD_B_H, .LD_B_L, .LD_B_A, .LD_C_B, .LD_C_C, .LD_C_D, .LD_C_E, .LD_C_H, .LD_C_L, .LD_C_A,
      .LD_D_B, .LD_D_C, .LD_D_D, .LD_D_E, .LD_D_H, .LD_D_L, .LD_D_A, .LD_E_B, .LD_E_C, .LD_E_D, .LD_E_E, .LD_E_H, .LD_E_L, .LD_E_A,
      .LD_H_B, .LD_H_C, .LD_H_D, .LD_H_E, .LD_H_H, .LD_H_L, .LD_H_A, .LD_L_B, .LD_L_C, .LD_L_D, .LD_L_E, .LD_L_H, .LD_L_L, .LD_L_A,
      .LD_A_B, .LD_A_C, .LD_A_D, .LD_A_E, .LD_A_H, .LD_A_L, .LD_A_A] := by rfl

/-- R102, R103. -/
theorem test_decode_LD_r_HL_and_LD_HL_r :
    ([
      0b01_000_110, 0b01_001_110, 0b01_010_110, 0b01_011_110, 0b01_100_110, 0b01_101_110, 0b01_111_110, 0b01_110_000, 0b01_110_001,
      0b01_110_010, 0b01_110_011, 0b01_110_100, 0b01_110_101, 0b01_110_111] : List Byte).map (decode · 0x34 0x12) = [
      .LD_B_HLm, .LD_C_HLm, .LD_D_HLm, .LD_E_HLm, .LD_H_HLm, .LD_L_HLm, .LD_A_HLm, .LD_HLm_B, .LD_HLm_C, .LD_HLm_D, .LD_HLm_E,
      .LD_HLm_H, .LD_HLm_L, .LD_HLm_A] := by rfl

/-- R101, R104. -/
theorem test_decode_LD_r_d8 :
    ([
      0b00_000_110, 0b00_001_110, 0b00_010_110, 0b00_011_110, 0b00_100_110, 0b00_101_110, 0b00_110_110, 0b00_111_110] : List Byte).map (decode · 0x34 0x12) = [
      .LD_B_d8 0x34, .LD_C_d8 0x34, .LD_D_d8 0x34, .LD_E_d8 0x34, .LD_H_d8 0x34, .LD_L_d8 0x34, .LD_HLm_d8 0x34, .LD_A_d8 0x34] := by rfl

/-- R105 to R108. -/
theorem test_decode_LD_A_indirect :
    ([
      0b00_001_010, 0b00_011_010, 0b00_000_010, 0b00_010_010] : List Byte).map (decode · 0x34 0x12) = [
      .LD_A_BCm, .LD_A_DEm, .LD_BCm_A, .LD_DEm_A] := by rfl

/-- R109 to R114. -/
theorem test_decode_LD_A_absolute_and_high_page :
    ([
      0b11_111_010, 0b11_101_010, 0b11_110_010, 0b11_100_010, 0b11_110_000, 0b11_100_000] : List Byte).map (decode · 0x34 0x12) = [
      .LD_A_a16m 0x1234, .LD_a16m_A 0x1234, .LDH_A_Cm, .LDH_Cm_A, .LDH_A_a8m 0x34, .LDH_a8m_A 0x34] := by rfl

/-- R115 to R118. -/
theorem test_decode_LDI_LDD :
    ([
      0b00_101_010, 0b00_100_010, 0b00_111_010, 0b00_110_010] : List Byte).map (decode · 0x34 0x12) = [
      .LDI_A_HLm, .LDI_HLm_A, .LDD_A_HLm, .LDD_HLm_A] := by rfl

/-- R121 to R124. -/
theorem test_decode_wide_loads :
    ([
      0b00_00_0_001, 0b00_01_0_001, 0b00_10_0_001, 0b00_11_0_001, 0b00_001_000, 0b11_111_001, 0b11_111_000] : List Byte).map (decode · 0x34 0x12) = [
      .LD_BC_d16 0x1234, .LD_DE_d16 0x1234, .LD_HL_d16 0x1234, .LD_SP_d16 0x1234, .LD_a16m_SP 0x1234, .LD_SP_HL, .LDHL_SP_e8 0x34] := by rfl

/-- R125 to R127. -/
theorem test_decode_PUSH_POP :
    ([
      0b11_00_0_101, 0b11_01_0_101, 0b11_10_0_101, 0b11_11_0_101, 0b11_00_0_001, 0b11_01_0_001, 0b11_10_0_001, 0b11_11_0_001] : List Byte).map (decode · 0x34 0x12) = [
      .PUSH_BC, .PUSH_DE, .PUSH_HL, .PUSH_AF, .POP_BC, .POP_DE, .POP_HL, .POP_AF] := by rfl

/-- R133. -/
theorem test_decode_ALU_ADD :
    ([
      0b10_000_000, 0b10_000_001, 0b10_000_010, 0b10_000_011, 0b10_000_100, 0b10_000_101, 0b10_000_110, 0b10_000_111, 0b11_000_110] : List Byte).map (decode · 0x34 0x12) = [
      .ADD_A_B, .ADD_A_C, .ADD_A_D, .ADD_A_E, .ADD_A_H, .ADD_A_L, .ADD_A_HLm, .ADD_A_A, .ADD_A_d8 0x34] := by rfl

/-- R134. -/
theorem test_decode_ALU_ADC :
    ([
      0b10_001_000, 0b10_001_001, 0b10_001_010, 0b10_001_011, 0b10_001_100, 0b10_001_101, 0b10_001_110, 0b10_001_111, 0b11_001_110] : List Byte).map (decode · 0x34 0x12) = [
      .ADC_A_B, .ADC_A_C, .ADC_A_D, .ADC_A_E, .ADC_A_H, .ADC_A_L, .ADC_A_HLm, .ADC_A_A, .ADC_A_d8 0x34] := by rfl

/-- R135. -/
theorem test_decode_ALU_SUB :
    ([
      0b10_010_000, 0b10_010_001, 0b10_010_010, 0b10_010_011, 0b10_010_100, 0b10_010_101, 0b10_010_110, 0b10_010_111, 0b11_010_110] : List Byte).map (decode · 0x34 0x12) = [
      .SUB_B, .SUB_C, .SUB_D, .SUB_E, .SUB_H, .SUB_L, .SUB_HLm, .SUB_A, .SUB_d8 0x34] := by rfl

/-- R136. -/
theorem test_decode_ALU_SBC :
    ([
      0b10_011_000, 0b10_011_001, 0b10_011_010, 0b10_011_011, 0b10_011_100, 0b10_011_101, 0b10_011_110, 0b10_011_111, 0b11_011_110] : List Byte).map (decode · 0x34 0x12) = [
      .SBC_A_B, .SBC_A_C, .SBC_A_D, .SBC_A_E, .SBC_A_H, .SBC_A_L, .SBC_A_HLm, .SBC_A_A, .SBC_A_d8 0x34] := by rfl

/-- R137. -/
theorem test_decode_ALU_AND :
    ([
      0b10_100_000, 0b10_100_001, 0b10_100_010, 0b10_100_011, 0b10_100_100, 0b10_100_101, 0b10_100_110, 0b10_100_111, 0b11_100_110] : List Byte).map (decode · 0x34 0x12) = [
      .AND_B, .AND_C, .AND_D, .AND_E, .AND_H, .AND_L, .AND_HLm, .AND_A, .AND_d8 0x34] := by rfl

/-- R138. -/
theorem test_decode_ALU_XOR :
    ([
      0b10_101_000, 0b10_101_001, 0b10_101_010, 0b10_101_011, 0b10_101_100, 0b10_101_101, 0b10_101_110, 0b10_101_111, 0b11_101_110] : List Byte).map (decode · 0x34 0x12) = [
      .XOR_B, .XOR_C, .XOR_D, .XOR_E, .XOR_H, .XOR_L, .XOR_HLm, .XOR_A, .XOR_d8 0x34] := by rfl

/-- R139. -/
theorem test_decode_ALU_OR :
    ([
      0b10_110_000, 0b10_110_001, 0b10_110_010, 0b10_110_011, 0b10_110_100, 0b10_110_101, 0b10_110_110, 0b10_110_111, 0b11_110_110] : List Byte).map (decode · 0x34 0x12) = [
      .OR_B, .OR_C, .OR_D, .OR_E, .OR_H, .OR_L, .OR_HLm, .OR_A, .OR_d8 0x34] := by rfl

/-- R140. -/
theorem test_decode_ALU_CP :
    ([
      0b10_111_000, 0b10_111_001, 0b10_111_010, 0b10_111_011, 0b10_111_100, 0b10_111_101, 0b10_111_110, 0b10_111_111, 0b11_111_110] : List Byte).map (decode · 0x34 0x12) = [
      .CP_B, .CP_C, .CP_D, .CP_E, .CP_H, .CP_L, .CP_HLm, .CP_A, .CP_d8 0x34] := by rfl

/-- R141 to R144. -/
theorem test_decode_INC_DEC_s :
    ([
      0b00_000_100, 0b00_001_100, 0b00_010_100, 0b00_011_100, 0b00_100_100, 0b00_101_100, 0b00_110_100, 0b00_111_100, 0b00_000_101,
      0b00_001_101, 0b00_010_101, 0b00_011_101, 0b00_100_101, 0b00_101_101, 0b00_110_101, 0b00_111_101] : List Byte).map (decode · 0x34 0x12) = [
      .INC_B, .INC_C, .INC_D, .INC_E, .INC_H, .INC_L, .INC_HLm, .INC_A, .DEC_B, .DEC_C, .DEC_D, .DEC_E, .DEC_H, .DEC_L, .DEC_HLm,
      .DEC_A] := by rfl

/-- R145 to R148, R171 to R174. -/
theorem test_decode_accumulator :
    ([
      0b00_000_111, 0b00_001_111, 0b00_010_111, 0b00_011_111, 0b00_100_111, 0b00_101_111, 0b00_110_111, 0b00_111_111] : List Byte).map (decode · 0x34 0x12) = [
      .RLCA, .RRCA, .RLA, .RRA, .DAA, .CPL, .SCF, .CCF] := by rfl

/-- R161 to R164. -/
theorem test_decode_pair_arithmetic :
    ([
      0b00_00_1_001, 0b00_01_1_001, 0b00_10_1_001, 0b00_11_1_001, 0b00_00_0_011, 0b00_01_0_011, 0b00_10_0_011, 0b00_11_0_011,
      0b00_00_1_011, 0b00_01_1_011, 0b00_10_1_011, 0b00_11_1_011, 0b11_101_000] : List Byte).map (decode · 0x34 0x12) = [
      .ADD_HL_BC, .ADD_HL_DE, .ADD_HL_HL, .ADD_HL_SP, .INC_BC, .INC_DE, .INC_HL, .INC_SP, .DEC_BC, .DEC_DE, .DEC_HL, .DEC_SP,
      .ADD_SP_e8 0x34] := by rfl

/-- R201 to R205. -/
theorem test_decode_jumps :
    ([
      0b11_000_011, 0b11_101_001, 0b00_011_000, 0b110_00_010, 0b110_01_010, 0b110_10_010, 0b110_11_010, 0b001_00_000, 0b001_01_000,
      0b001_10_000, 0b001_11_000] : List Byte).map (decode · 0x34 0x12) = [
      .JP_a16 0x1234, .JP_HLm, .JR_e8 0x34, .JP_NZ_a16 0x1234, .JP_Z_a16 0x1234, .JP_NC_a16 0x1234, .JP_C_a16 0x1234, .JR_NZ_e8 0x34,
      .JR_Z_e8 0x34, .JR_NC_e8 0x34, .JR_C_e8 0x34] := by rfl

/-- R206 to R210. -/
theorem test_decode_calls_and_returns :
    ([
      0b11_001_101, 0b11_001_001, 0b11_011_001, 0b110_00_100, 0b110_01_100, 0b110_10_100, 0b110_11_100, 0b110_00_000, 0b110_01_000,
      0b110_10_000, 0b110_11_000] : List Byte).map (decode · 0x34 0x12) = [
      .CALL_a16 0x1234, .RET, .RETI, .CALL_NZ_a16 0x1234, .CALL_Z_a16 0x1234, .CALL_NC_a16 0x1234, .CALL_C_a16 0x1234, .RET_NZ,
      .RET_Z, .RET_NC, .RET_C] := by rfl

/-- R211. -/
theorem test_decode_RST :
    ([
      0b11_000_111, 0b11_001_111, 0b11_010_111, 0b11_011_111, 0b11_100_111, 0b11_101_111, 0b11_110_111, 0b11_111_111] : List Byte).map (decode · 0x34 0x12) = [
      .RST_0x00, .RST_0x08, .RST_0x10, .RST_0x18, .RST_0x20, .RST_0x28, .RST_0x30, .RST_0x38] := by rfl

/-- R220 to R224. -/
theorem test_decode_misc :
    ([
      0b00_000_000, 0b00_010_000, 0b01_110_110, 0b11_110_011, 0b11_111_011] : List Byte).map (decode · 0x34 0x12) = [
      .NOP, .STOP, .HALT, .DI, .EI] := by rfl

/-- R72, R225. -/
theorem test_decode_ILLEGAL :
    ([
      0b11_010_011, 0b11_011_011, 0b11_011_101, 0b11_100_011, 0b11_100_100, 0b11_101_011, 0b11_101_100, 0b11_101_101, 0b11_110_100,
      0b11_111_100, 0b11_111_101] : List Byte).map (decode · 0x34 0x12) = [
      .ILLEGAL_D3, .ILLEGAL_DB, .ILLEGAL_DD, .ILLEGAL_E3, .ILLEGAL_E4, .ILLEGAL_EB, .ILLEGAL_EC, .ILLEGAL_ED, .ILLEGAL_F4,
      .ILLEGAL_FC, .ILLEGAL_FD] := by rfl

/-- R176. -/
theorem test_decode_CB_RLC :
    ([
      0b00_000_000, 0b00_000_001, 0b00_000_010, 0b00_000_011, 0b00_000_100, 0b00_000_101, 0b00_000_110, 0b00_000_111] : List Byte).map (decode 0xCB · 0x00) = [
      .RLC_B, .RLC_C, .RLC_D, .RLC_E, .RLC_H, .RLC_L, .RLC_HLm, .RLC_A] := by rfl

/-- R177. -/
theorem test_decode_CB_RRC :
    ([
      0b00_001_000, 0b00_001_001, 0b00_001_010, 0b00_001_011, 0b00_001_100, 0b00_001_101, 0b00_001_110, 0b00_001_111] : List Byte).map (decode 0xCB · 0x00) = [
      .RRC_B, .RRC_C, .RRC_D, .RRC_E, .RRC_H, .RRC_L, .RRC_HLm, .RRC_A] := by rfl

/-- R178. -/
theorem test_decode_CB_RL :
    ([
      0b00_010_000, 0b00_010_001, 0b00_010_010, 0b00_010_011, 0b00_010_100, 0b00_010_101, 0b00_010_110, 0b00_010_111] : List Byte).map (decode 0xCB · 0x00) = [
      .RL_B, .RL_C, .RL_D, .RL_E, .RL_H, .RL_L, .RL_HLm, .RL_A] := by rfl

/-- R179. -/
theorem test_decode_CB_RR :
    ([
      0b00_011_000, 0b00_011_001, 0b00_011_010, 0b00_011_011, 0b00_011_100, 0b00_011_101, 0b00_011_110, 0b00_011_111] : List Byte).map (decode 0xCB · 0x00) = [
      .RR_B, .RR_C, .RR_D, .RR_E, .RR_H, .RR_L, .RR_HLm, .RR_A] := by rfl

/-- R180. -/
theorem test_decode_CB_SLA :
    ([
      0b00_100_000, 0b00_100_001, 0b00_100_010, 0b00_100_011, 0b00_100_100, 0b00_100_101, 0b00_100_110, 0b00_100_111] : List Byte).map (decode 0xCB · 0x00) = [
      .SLA_B, .SLA_C, .SLA_D, .SLA_E, .SLA_H, .SLA_L, .SLA_HLm, .SLA_A] := by rfl

/-- R181. -/
theorem test_decode_CB_SRA :
    ([
      0b00_101_000, 0b00_101_001, 0b00_101_010, 0b00_101_011, 0b00_101_100, 0b00_101_101, 0b00_101_110, 0b00_101_111] : List Byte).map (decode 0xCB · 0x00) = [
      .SRA_B, .SRA_C, .SRA_D, .SRA_E, .SRA_H, .SRA_L, .SRA_HLm, .SRA_A] := by rfl

/-- R182. -/
theorem test_decode_CB_SWAP :
    ([
      0b00_110_000, 0b00_110_001, 0b00_110_010, 0b00_110_011, 0b00_110_100, 0b00_110_101, 0b00_110_110, 0b00_110_111] : List Byte).map (decode 0xCB · 0x00) = [
      .SWAP_B, .SWAP_C, .SWAP_D, .SWAP_E, .SWAP_H, .SWAP_L, .SWAP_HLm, .SWAP_A] := by rfl

/-- R183. -/
theorem test_decode_CB_SRL :
    ([
      0b00_111_000, 0b00_111_001, 0b00_111_010, 0b00_111_011, 0b00_111_100, 0b00_111_101, 0b00_111_110, 0b00_111_111] : List Byte).map (decode 0xCB · 0x00) = [
      .SRL_B, .SRL_C, .SRL_D, .SRL_E, .SRL_H, .SRL_L, .SRL_HLm, .SRL_A] := by rfl

/-- R184. -/
theorem test_decode_CB_BIT_0_to_3 :
    ([
      0b01_000_000, 0b01_000_001, 0b01_000_010, 0b01_000_011, 0b01_000_100, 0b01_000_101, 0b01_000_110, 0b01_000_111, 0b01_001_000,
      0b01_001_001, 0b01_001_010, 0b01_001_011, 0b01_001_100, 0b01_001_101, 0b01_001_110, 0b01_001_111, 0b01_010_000, 0b01_010_001,
      0b01_010_010, 0b01_010_011, 0b01_010_100, 0b01_010_101, 0b01_010_110, 0b01_010_111, 0b01_011_000, 0b01_011_001, 0b01_011_010,
      0b01_011_011, 0b01_011_100, 0b01_011_101, 0b01_011_110, 0b01_011_111] : List Byte).map (decode 0xCB · 0x00) = [
      .BIT_0_B, .BIT_0_C, .BIT_0_D, .BIT_0_E, .BIT_0_H, .BIT_0_L, .BIT_0_HLm, .BIT_0_A, .BIT_1_B, .BIT_1_C, .BIT_1_D, .BIT_1_E,
      .BIT_1_H, .BIT_1_L, .BIT_1_HLm, .BIT_1_A, .BIT_2_B, .BIT_2_C, .BIT_2_D, .BIT_2_E, .BIT_2_H, .BIT_2_L, .BIT_2_HLm, .BIT_2_A,
      .BIT_3_B, .BIT_3_C, .BIT_3_D, .BIT_3_E, .BIT_3_H, .BIT_3_L, .BIT_3_HLm, .BIT_3_A] := by rfl

/-- R184. -/
theorem test_decode_CB_BIT_4_to_7 :
    ([
      0b01_100_000, 0b01_100_001, 0b01_100_010, 0b01_100_011, 0b01_100_100, 0b01_100_101, 0b01_100_110, 0b01_100_111, 0b01_101_000,
      0b01_101_001, 0b01_101_010, 0b01_101_011, 0b01_101_100, 0b01_101_101, 0b01_101_110, 0b01_101_111, 0b01_110_000, 0b01_110_001,
      0b01_110_010, 0b01_110_011, 0b01_110_100, 0b01_110_101, 0b01_110_110, 0b01_110_111, 0b01_111_000, 0b01_111_001, 0b01_111_010,
      0b01_111_011, 0b01_111_100, 0b01_111_101, 0b01_111_110, 0b01_111_111] : List Byte).map (decode 0xCB · 0x00) = [
      .BIT_4_B, .BIT_4_C, .BIT_4_D, .BIT_4_E, .BIT_4_H, .BIT_4_L, .BIT_4_HLm, .BIT_4_A, .BIT_5_B, .BIT_5_C, .BIT_5_D, .BIT_5_E,
      .BIT_5_H, .BIT_5_L, .BIT_5_HLm, .BIT_5_A, .BIT_6_B, .BIT_6_C, .BIT_6_D, .BIT_6_E, .BIT_6_H, .BIT_6_L, .BIT_6_HLm, .BIT_6_A,
      .BIT_7_B, .BIT_7_C, .BIT_7_D, .BIT_7_E, .BIT_7_H, .BIT_7_L, .BIT_7_HLm, .BIT_7_A] := by rfl

/-- R185. -/
theorem test_decode_CB_RES_0_to_3 :
    ([
      0b10_000_000, 0b10_000_001, 0b10_000_010, 0b10_000_011, 0b10_000_100, 0b10_000_101, 0b10_000_110, 0b10_000_111, 0b10_001_000,
      0b10_001_001, 0b10_001_010, 0b10_001_011, 0b10_001_100, 0b10_001_101, 0b10_001_110, 0b10_001_111, 0b10_010_000, 0b10_010_001,
      0b10_010_010, 0b10_010_011, 0b10_010_100, 0b10_010_101, 0b10_010_110, 0b10_010_111, 0b10_011_000, 0b10_011_001, 0b10_011_010,
      0b10_011_011, 0b10_011_100, 0b10_011_101, 0b10_011_110, 0b10_011_111] : List Byte).map (decode 0xCB · 0x00) = [
      .RES_0_B, .RES_0_C, .RES_0_D, .RES_0_E, .RES_0_H, .RES_0_L, .RES_0_HLm, .RES_0_A, .RES_1_B, .RES_1_C, .RES_1_D, .RES_1_E,
      .RES_1_H, .RES_1_L, .RES_1_HLm, .RES_1_A, .RES_2_B, .RES_2_C, .RES_2_D, .RES_2_E, .RES_2_H, .RES_2_L, .RES_2_HLm, .RES_2_A,
      .RES_3_B, .RES_3_C, .RES_3_D, .RES_3_E, .RES_3_H, .RES_3_L, .RES_3_HLm, .RES_3_A] := by rfl

/-- R185. -/
theorem test_decode_CB_RES_4_to_7 :
    ([
      0b10_100_000, 0b10_100_001, 0b10_100_010, 0b10_100_011, 0b10_100_100, 0b10_100_101, 0b10_100_110, 0b10_100_111, 0b10_101_000,
      0b10_101_001, 0b10_101_010, 0b10_101_011, 0b10_101_100, 0b10_101_101, 0b10_101_110, 0b10_101_111, 0b10_110_000, 0b10_110_001,
      0b10_110_010, 0b10_110_011, 0b10_110_100, 0b10_110_101, 0b10_110_110, 0b10_110_111, 0b10_111_000, 0b10_111_001, 0b10_111_010,
      0b10_111_011, 0b10_111_100, 0b10_111_101, 0b10_111_110, 0b10_111_111] : List Byte).map (decode 0xCB · 0x00) = [
      .RES_4_B, .RES_4_C, .RES_4_D, .RES_4_E, .RES_4_H, .RES_4_L, .RES_4_HLm, .RES_4_A, .RES_5_B, .RES_5_C, .RES_5_D, .RES_5_E,
      .RES_5_H, .RES_5_L, .RES_5_HLm, .RES_5_A, .RES_6_B, .RES_6_C, .RES_6_D, .RES_6_E, .RES_6_H, .RES_6_L, .RES_6_HLm, .RES_6_A,
      .RES_7_B, .RES_7_C, .RES_7_D, .RES_7_E, .RES_7_H, .RES_7_L, .RES_7_HLm, .RES_7_A] := by rfl

/-- R186. -/
theorem test_decode_CB_SET_0_to_3 :
    ([
      0b11_000_000, 0b11_000_001, 0b11_000_010, 0b11_000_011, 0b11_000_100, 0b11_000_101, 0b11_000_110, 0b11_000_111, 0b11_001_000,
      0b11_001_001, 0b11_001_010, 0b11_001_011, 0b11_001_100, 0b11_001_101, 0b11_001_110, 0b11_001_111, 0b11_010_000, 0b11_010_001,
      0b11_010_010, 0b11_010_011, 0b11_010_100, 0b11_010_101, 0b11_010_110, 0b11_010_111, 0b11_011_000, 0b11_011_001, 0b11_011_010,
      0b11_011_011, 0b11_011_100, 0b11_011_101, 0b11_011_110, 0b11_011_111] : List Byte).map (decode 0xCB · 0x00) = [
      .SET_0_B, .SET_0_C, .SET_0_D, .SET_0_E, .SET_0_H, .SET_0_L, .SET_0_HLm, .SET_0_A, .SET_1_B, .SET_1_C, .SET_1_D, .SET_1_E,
      .SET_1_H, .SET_1_L, .SET_1_HLm, .SET_1_A, .SET_2_B, .SET_2_C, .SET_2_D, .SET_2_E, .SET_2_H, .SET_2_L, .SET_2_HLm, .SET_2_A,
      .SET_3_B, .SET_3_C, .SET_3_D, .SET_3_E, .SET_3_H, .SET_3_L, .SET_3_HLm, .SET_3_A] := by rfl

/-- R186. -/
theorem test_decode_CB_SET_4_to_7 :
    ([
      0b11_100_000, 0b11_100_001, 0b11_100_010, 0b11_100_011, 0b11_100_100, 0b11_100_101, 0b11_100_110, 0b11_100_111, 0b11_101_000,
      0b11_101_001, 0b11_101_010, 0b11_101_011, 0b11_101_100, 0b11_101_101, 0b11_101_110, 0b11_101_111, 0b11_110_000, 0b11_110_001,
      0b11_110_010, 0b11_110_011, 0b11_110_100, 0b11_110_101, 0b11_110_110, 0b11_110_111, 0b11_111_000, 0b11_111_001, 0b11_111_010,
      0b11_111_011, 0b11_111_100, 0b11_111_101, 0b11_111_110, 0b11_111_111] : List Byte).map (decode 0xCB · 0x00) = [
      .SET_4_B, .SET_4_C, .SET_4_D, .SET_4_E, .SET_4_H, .SET_4_L, .SET_4_HLm, .SET_4_A, .SET_5_B, .SET_5_C, .SET_5_D, .SET_5_E,
      .SET_5_H, .SET_5_L, .SET_5_HLm, .SET_5_A, .SET_6_B, .SET_6_C, .SET_6_D, .SET_6_E, .SET_6_H, .SET_6_L, .SET_6_HLm, .SET_6_A,
      .SET_7_B, .SET_7_C, .SET_7_D, .SET_7_E, .SET_7_H, .SET_7_L, .SET_7_HLm, .SET_7_A] := by rfl

/-- Too few bytes are refused by name, and one more byte is enough. -/
theorem test_decodeBytes_refuses_truncated :
    decodeBytes [] = .error .noBytes ∧ decodeBytes [0xCB] = .error .truncated ∧ decodeBytes [0xCD, 0x00] = .error .truncated ∧
    decodeBytes [0xCD, 0x00, 0x02] = .ok (.CALL_a16 0x0200, []) := ⟨rfl, rfl, rfl, rfl⟩

/-- Table words as R78 numbers them: CB 40 is 0xCB40; elsewhere byte 0 is in bits 7..0. -/
theorem test_decodeTableWord :
    decodeTableWord 16 0xCB40 = some .BIT_0_B ∧ decodeTableWord 8 0x3C = some .INC_A ∧ decodeTableWord 16 0x0506 = some (.LD_B_d8 0x05) ∧
    decodeTableWord 24 0x0200CD = some (.CALL_a16 0x0200) ∧ decodeTableWord 8 0xCD = some (.CALL_a16 0x0000) := ⟨rfl, rfl, rfl, rfl, rfl⟩

/-- The placed word is what the next step runs, from reset. -/
theorem test_withFetchWord_runs_from_reset :
    step (State.reset.withFetchWord 8 0x3C) =
      .next { State.reset.withFetchWord 8 0x3C with a := 0x01, f := 0x00, pc := 0x0001 } ∧
    step (State.reset.withFetchWord 16 0xCBC7) = .next { State.reset.withFetchWord 16 0xCBC7 with a := 0x01, pc := 0x0002 } := ⟨rfl, rfl⟩

/-! ## The vectors of spec/95_test_vectors.md, by their numbers -/

/-- The default start state of the vectors: power-on with PC = 0x0100. -/
def start : State := { State.reset with pc := 0x0100 }

/-- One step from `s` leads to the end state of the vector's row. -/
def Gives (s : State) (after : State → State) : Prop := step s = .next (after s)

theorem test_V1_LD_A_B : Gives (({ start with b := 0x12 }).cells [(0x0100, 0x78)]) fun s => { s with a := 0x12, pc := 0x0101 } := by rfl
theorem test_V2_LD_B_B : Gives (({ start with f := 0xF0, b := 0x34 }).cells [(0x0100, 0x40)]) fun s => { s with pc := 0x0101 } := by rfl
theorem test_V4_LD_A_HL : Gives (({ start with h := 0xC0 }).cells [(0x0100, 0x7E), (0xC000, 0x5A)]) fun s => { s with a := 0x5A, pc := 0x0101 } := by rfl
theorem test_V5_LD_H_HL : Gives (({ start with h := 0xC0 }).cells [(0x0100, 0x66), (0xC000, 0xD1)]) fun s => { s with h := 0xD1, pc := 0x0101 } := by rfl
theorem test_V8_LD_HL_A : Gives (({ start with a := 0x99, h := 0x40 }).cells [(0x0100, 0x77)]) fun s => { s with pc := 0x0101 } := by rfl
theorem test_V9_LD_HL_H : Gives (({ start with h := 0xC1, l := 0xC2 }).cells [(0x0100, 0x74)]) fun s => ({ s with pc := 0x0101 }).cells [(0xC1C2, 0xC1)] := by rfl
theorem test_V10_LD_HL_d8 : Gives (({ start with h := 0xFF, l := 0x80 }).cells [(0x0100, 0x36), (0x0101, 0x42)]) fun s => ({ s with pc := 0x0102 }).cells [(0xFF80, 0x42)] := by rfl
theorem test_V11_LD_A_BC : Gives (({ start with b := 0xC0, c := 0x10 }).cells [(0x0100, 0x0A), (0xC010, 0x77)]) fun s => { s with a := 0x77, pc := 0x0101 } := by rfl
theorem test_V12_LD_A_DE : Gives (start.cells [(0x0100, 0x1A), (0x0000, 0x31)]) fun s => { s with a := 0x31, pc := 0x0101 } := by rfl
theorem test_V13_LD_BC_A : Gives (({ start with a := 0x3C, b := 0x80 }).cells [(0x0100, 0x02)]) fun s => ({ s with pc := 0x0101 }).cells [(0x8000, 0x3C)] := by rfl
theorem test_V14_LD_DE_A : Gives (({ start with a := 0x11, d := 0xE0, e := 0x05 }).cells [(0x0100, 0x12)]) fun s => ({ s with pc := 0x0101 }).cells [(0xC005, 0x11)] := by rfl
theorem test_V15_LD_A_a16 : Gives (start.cells [(0x0100, 0xFA), (0x0101, 0x00), (0x0102, 0xC0), (0xC000, 0xAB)]) fun s => { s with a := 0xAB, pc := 0x0103 } := by rfl
theorem test_V16_LD_a16_A : Gives (({ start with a := 0x1F }).cells [(0x0100, 0xEA), (0x0101, 0xFF), (0x0102, 0xFF)]) fun s => ({ s with pc := 0x0103 }).cells [(0xFFFF, 0x1F)] := by rfl
theorem test_V17_LDH_A_C : Gives (({ start with c := 0x80 }).cells [(0x0100, 0xF2), (0xFF80, 0x07)]) fun s => { s with a := 0x07, pc := 0x0101 } := by rfl
theorem test_V18_LDH_C_A : Gives (({ start with a := 0x91, c := 0x40 }).cells [(0x0100, 0xE2)]) fun s => ({ s with pc := 0x0101 }).cells [(0xFF40, 0x91)] := by rfl
theorem test_V19_LDH_A_a8 : Gives (start.cells [(0x0100, 0xF0), (0x0101, 0x44), (0xFF44, 0x90)]) fun s => { s with a := 0x90, pc := 0x0102 } := by rfl
theorem test_V20_LDH_a8_A : Gives (({ start with a := 0x55 }).cells [(0x0100, 0xE0), (0x0101, 0x80)]) fun s => ({ s with pc := 0x0102 }).cells [(0xFF80, 0x55)] := by rfl
theorem test_V22_LDI_A_HL : Gives (({ start with h := 0xFF, l := 0xFF }).cells [(0x0100, 0x2A), (0xFFFF, 0xE0)]) fun s => { s with a := 0xE0, h := 0x00, l := 0x00, pc := 0x0101 } := by rfl
theorem test_V23_LDI_HL_A : Gives (({ start with a := 0xFF, h := 0x80 }).cells [(0x0100, 0x22)]) fun s => ({ s with l := 0x01, pc := 0x0101 }).cells [(0x8000, 0xFF)] := by rfl
theorem test_V24_LDD_A_HL : Gives (({ start with h := 0xC1 }).cells [(0x0100, 0x3A), (0xC100, 0x02)]) fun s => { s with a := 0x02, h := 0xC0, l := 0xFF, pc := 0x0101 } := by rfl
theorem test_V25_LDD_HL_A : Gives (({ start with a := 0x77 }).cells [(0x0100, 0x32)]) fun s => { s with h := 0xFF, l := 0xFF, pc := 0x0101 } := by rfl
theorem test_V31_LD_SP_d16 : Gives (start.cells [(0x0100, 0x31), (0x0101, 0xFE), (0x0102, 0xFF)]) fun s => { s with sp := 0xFFFE, pc := 0x0103 } := by rfl
theorem test_V33_LD_a16_SP : Gives (({ start with sp := 0x1234 }).cells [(0x0100, 0x08), (0x0101, 0xFF), (0x0102, 0xFF)]) fun s => ({ s with pc := 0x0103 }).cells [(0xFFFF, 0x34)] := by rfl
theorem test_V34_LD_a16_SP : Gives (({ start with sp := 0xABCD }).cells [(0x0100, 0x08), (0x0101, 0xFF), (0x0102, 0x7F)]) fun s => ({ s with pc := 0x0103 }).cells [(0x8000, 0xAB)] := by rfl
theorem test_V35_LD_SP_HL : Gives (({ start with h := 0xDF, l := 0xF0 }).cells [(0x0100, 0xF9)]) fun s => { s with sp := 0xDFF0, pc := 0x0101 } := by rfl
theorem test_V39_LDHL_SP_e8 : Gives (({ start with sp := 0x0001 }).cells [(0x0100, 0xF8), (0x0101, 0xFF)]) fun s => { s with f := 0x30, pc := 0x0102 } := by rfl
theorem test_V41_PUSH_AF : Gives (({ start with a := 0x12, f := 0xB0, sp := 0xC002 }).cells [(0x0100, 0xF5)]) fun s => ({ s with sp := 0xC000, pc := 0x0101 }).cells [(0xC000, 0xB0), (0xC001, 0x12)] := by rfl
theorem test_V42_PUSH_BC : Gives (({ start with b := 0xAB, c := 0xCD, sp := 0x0001 }).cells [(0x0100, 0xC5)]) fun s => ({ s with sp := 0xFFFF, pc := 0x0101 }).cells [(0xFFFF, 0xCD)] := by rfl
theorem test_V45_POP_HL : Gives (({ start with sp := 0xFFFF }).cells [(0x0100, 0xE1), (0xFFFF, 0x5A)]) fun s => { s with l := 0x5A, sp := 0x0001, pc := 0x0101 } := by rfl
theorem test_V47_POP_AF : Gives (({ start with sp := 0xC000 }).cells [(0x0100, 0xF1), (0xC000, 0x5F), (0xC001, 0x12)]) fun s => { s with a := 0x12, f := 0x50, sp := 0xC002, pc := 0x0101 } := by rfl
theorem test_V60_ADD_A_B : Gives (({ start with a := 0x3A, b := 0xC6 }).cells [(0x0100, 0x80)]) fun s => { s with a := 0x00, f := 0xB0, pc := 0x0101 } := by rfl
theorem test_V61_ADD_A_d8 : Gives (({ start with a := 0x0F }).cells [(0x0100, 0xC6), (0x0101, 0x01)]) fun s => { s with a := 0x10, f := 0x20, pc := 0x0102 } := by rfl
theorem test_V62_ADD_A_A : Gives (({ start with a := 0x80 }).cells [(0x0100, 0x87)]) fun s => { s with a := 0x00, f := 0x90, pc := 0x0101 } := by rfl
theorem test_V64_ADC_A_d8 : Gives (({ start with a := 0xE1, f := 0x10 }).cells [(0x0100, 0xCE), (0x0101, 0x01)]) fun s => { s with a := 0xE3, f := 0x00, pc := 0x0102 } := by rfl
theorem test_V67_ADC_A_HL : Gives (({ start with a := 0x01, f := 0x10, h := 0xC0 }).cells [(0x0100, 0x8E), (0xC000, 0xFE)]) fun s => { s with a := 0x00, f := 0xB0, pc := 0x0101 } := by rfl
theorem test_V68_SUB_B : Gives (({ start with a := 0x3E, b := 0x3E }).cells [(0x0100, 0x90)]) fun s => { s with a := 0x00, f := 0xC0, pc := 0x0101 } := by rfl
theorem test_V69_SUB_d8 : Gives (start.cells [(0x0100, 0xD6), (0x0101, 0x01)]) fun s => { s with a := 0xFF, f := 0x70, pc := 0x0102 } := by rfl
theorem test_V71_SUB_A : Gives (({ start with a := 0x5C, f := 0x10 }).cells [(0x0100, 0x97)]) fun s => { s with a := 0x00, f := 0xC0, pc := 0x0101 } := by rfl
theorem test_V73_SBC_A_A : Gives (({ start with a := 0x42, f := 0x10 }).cells [(0x0100, 0x9F)]) fun s => { s with a := 0xFF, f := 0x70, pc := 0x0101 } := by rfl
theorem test_V75_SBC_A_d8 : Gives (({ start with f := 0x10 }).cells [(0x0100, 0xDE), (0x0101, 0xFF)]) fun s => { s with f := 0xF0, pc := 0x0102 } := by rfl
theorem test_V76_AND_d8 : Gives (({ start with a := 0x5A, f := 0x50 }).cells [(0x0100, 0xE6), (0x0101, 0x0F)]) fun s => { s with a := 0x0A, f := 0x20, pc := 0x0102 } := by rfl
theorem test_V78_XOR_A : Gives (({ start with a := 0x77, f := 0x70 }).cells [(0x0100, 0xAF)]) fun s => { s with a := 0x00, f := 0x80, pc := 0x0101 } := by rfl
theorem test_V79_XOR_d8 : Gives (({ start with a := 0x0F }).cells [(0x0100, 0xEE), (0x0101, 0xFF)]) fun s => { s with a := 0xF0, pc := 0x0102 } := by rfl
theorem test_V80_OR_C : Gives (({ start with a := 0x50, f := 0xF0, c := 0x05 }).cells [(0x0100, 0xB1)]) fun s => { s with a := 0x55, f := 0x00, pc := 0x0101 } := by rfl
theorem test_V81_OR_A : Gives (({ start with f := 0x70 }).cells [(0x0100, 0xB7)]) fun s => { s with f := 0x80, pc := 0x0101 } := by rfl
theorem test_V82_CP_d8 : Gives (({ start with a := 0x3C }).cells [(0x0100, 0xFE), (0x0101, 0x40)]) fun s => { s with f := 0x50, pc := 0x0102 } := by rfl
theorem test_V83_CP_A : Gives (({ start with a := 0x99 }).cells [(0x0100, 0xBF)]) fun s => { s with f := 0xC0, pc := 0x0101 } := by rfl
theorem test_V85_INC_A : Gives (({ start with a := 0xFF, f := 0x10 }).cells [(0x0100, 0x3C)]) fun s => { s with a := 0x00, f := 0xB0, pc := 0x0101 } := by rfl
theorem test_V87_INC_B : Gives (({ start with f := 0x40, b := 0x0F }).cells [(0x0100, 0x04)]) fun s => { s with f := 0x20, b := 0x10, pc := 0x0101 } := by rfl
theorem test_V89_INC_HL : Gives (({ start with h := 0xFE, l := 0xA0 }).cells [(0x0100, 0x34)]) fun s => { s with pc := 0x0101 } := by rfl
theorem test_V90_DEC_B : Gives (({ start with f := 0x10, b := 0x01 }).cells [(0x0100, 0x05)]) fun s => { s with f := 0xD0, b := 0x00, pc := 0x0101 } := by rfl
theorem test_V91_DEC_A : Gives (start.cells [(0x0100, 0x3D)]) fun s => { s with a := 0xFF, f := 0x60, pc := 0x0101 } := by rfl
theorem test_V92_DEC_C : Gives (({ start with c := 0x10 }).cells [(0x0100, 0x0D)]) fun s => { s with f := 0x60, c := 0x0F, pc := 0x0101 } := by rfl
theorem test_V93_DEC_HL : Gives (({ start with h := 0xFF, l := 0x80 }).cells [(0x0100, 0x35)]) fun s => ({ s with f := 0x60, pc := 0x0101 }).cells [(0xFF80, 0xFF)] := by rfl
theorem test_V96_DAA : Gives (({ start with a := 0x9A }).cells [(0x0100, 0x27)]) fun s => { s with a := 0x00, f := 0x90, pc := 0x0101 } := by rfl
theorem test_V98_DAA : Gives (({ start with a := 0xFF, f := 0x70 }).cells [(0x0100, 0x27)]) fun s => { s with a := 0x99, f := 0x50, pc := 0x0101 } := by rfl
theorem test_V103_CPL : Gives (({ start with a := 0xFF, f := 0x90 }).cells [(0x0100, 0x2F)]) fun s => { s with a := 0x00, f := 0xF0, pc := 0x0101 } := by rfl
theorem test_V104_SCF : Gives (({ start with f := 0xE0 }).cells [(0x0100, 0x37)]) fun s => { s with f := 0x90, pc := 0x0101 } := by rfl
theorem test_V105_CCF : Gives (({ start with f := 0x90 }).cells [(0x0100, 0x3F)]) fun s => { s with f := 0x80, pc := 0x0101 } := by rfl
theorem test_V120_ADD_HL_BC : Gives (({ start with f := 0xC0, b := 0x06, c := 0x05, h := 0x8A, l := 0x23 }).cells [(0x0100, 0x09)]) fun s => { s with f := 0xA0, h := 0x90, l := 0x28, pc := 0x0101 } := by rfl
theorem test_V121_ADD_HL_HL : Gives (({ start with h := 0x88 }).cells [(0x0100, 0x29)]) fun s => { s with f := 0x30, h := 0x10, pc := 0x0101 } := by rfl
theorem test_V122_ADD_HL_DE : Gives (({ start with e := 0x01, h := 0xFF, l := 0xFF }).cells [(0x0100, 0x19)]) fun s => { s with f := 0x30, h := 0x00, l := 0x00, pc := 0x0101 } := by rfl
theorem test_V123_ADD_HL_SP : Gives (({ start with h := 0x0F, l := 0xFF, sp := 0x0001 }).cells [(0x0100, 0x39)]) fun s => { s with f := 0x20, h := 0x10, l := 0x00, pc := 0x0101 } := by rfl
theorem test_V127_ADD_SP_e8 : Gives (({ start with sp := 0xFFF8 }).cells [(0x0100, 0xE8), (0x0101, 0xF8)]) fun s => { s with f := 0x30, sp := 0xFFF0, pc := 0x0102 } := by rfl
theorem test_V128_INC_BC : Gives (({ start with f := 0xF0, b := 0x12, c := 0xFF }).cells [(0x0100, 0x03)]) fun s => { s with b := 0x13, c := 0x00, pc := 0x0101 } := by rfl
theorem test_V129_INC_SP : Gives (({ start with sp := 0xFFFF }).cells [(0x0100, 0x33)]) fun s => { s with sp := 0x0000, pc := 0x0101 } := by rfl
theorem test_V130_DEC_HL : Gives (({ start with h := 0x10 }).cells [(0x0100, 0x2B)]) fun s => { s with h := 0x0F, l := 0xFF, pc := 0x0101 } := by rfl
theorem test_V131_DEC_DE : Gives (start.cells [(0x0100, 0x1B)]) fun s => { s with d := 0xFF, e := 0xFF, pc := 0x0101 } := by rfl
theorem test_V132_DEC_BC : Gives (({ start with c := 0x01 }).cells [(0x0100, 0x0B)]) fun s => { s with c := 0x00, pc := 0x0101 } := by rfl
theorem test_V141_RLCA : Gives (({ start with f := 0x80 }).cells [(0x0100, 0x07)]) fun s => { s with pc := 0x0101 } := by rfl
theorem test_V142_RLA : Gives (({ start with a := 0x95, f := 0x10 }).cells [(0x0100, 0x17)]) fun s => { s with a := 0x2B, pc := 0x0101 } := by rfl
theorem test_V144_RRCA : Gives (({ start with a := 0x3B }).cells [(0x0100, 0x0F)]) fun s => { s with a := 0x9D, f := 0x10, pc := 0x0101 } := by rfl
theorem test_V146_RRA : Gives (({ start with a := 0x01, f := 0x80 }).cells [(0x0100, 0x1F)]) fun s => { s with a := 0x00, f := 0x90, pc := 0x0101 } := by rfl
theorem test_V147_RLC_B : Gives (({ start with b := 0x85 }).cells [(0x0100, 0xCB), (0x0101, 0x00)]) fun s => { s with f := 0x10, b := 0x0B, pc := 0x0102 } := by rfl
theorem test_V148_RLC_A : Gives (({ start with f := 0x10 }).cells [(0x0100, 0xCB), (0x0101, 0x07)]) fun s => { s with f := 0x80, pc := 0x0102 } := by rfl
theorem test_V149_RRC_C : Gives (({ start with c := 0x01 }).cells [(0x0100, 0xCB), (0x0101, 0x09)]) fun s => { s with f := 0x10, c := 0x80, pc := 0x0102 } := by rfl
theorem test_V150_RL_L : Gives (({ start with l := 0x80 }).cells [(0x0100, 0xCB), (0x0101, 0x15)]) fun s => { s with f := 0x90, l := 0x00, pc := 0x0102 } := by rfl
theorem test_V151_RL_D : Gives (({ start with f := 0x10 }).cells [(0x0100, 0xCB), (0x0101, 0x12)]) fun s => { s with f := 0x00, d := 0x01, pc := 0x0102 } := by rfl
theorem test_V152_RR_A : Gives (({ start with a := 0x01 }).cells [(0x0100, 0xCB), (0x0101, 0x1F)]) fun s => { s with a := 0x00, f := 0x90, pc := 0x0102 } := by rfl
theorem test_V153_RR_E : Gives (({ start with f := 0x10 }).cells [(0x0100, 0xCB), (0x0101, 0x1B)]) fun s => { s with f := 0x00, e := 0x80, pc := 0x0102 } := by rfl
theorem test_V154_SLA_D : Gives (({ start with d := 0x80 }).cells [(0x0100, 0xCB), (0x0101, 0x22)]) fun s => { s with f := 0x90, d := 0x00, pc := 0x0102 } := by rfl
theorem test_V155_SLA_A : Gives (({ start with a := 0xFF }).cells [(0x0100, 0xCB), (0x0101, 0x27)]) fun s => { s with a := 0xFE, f := 0x10, pc := 0x0102 } := by rfl
theorem test_V156_SRA_A : Gives (({ start with a := 0x8A }).cells [(0x0100, 0xCB), (0x0101, 0x2F)]) fun s => { s with a := 0xC5, pc := 0x0102 } := by rfl
theorem test_V157_SRA_B : Gives (({ start with b := 0x01 }).cells [(0x0100, 0xCB), (0x0101, 0x28)]) fun s => { s with f := 0x90, b := 0x00, pc := 0x0102 } := by rfl
theorem test_V158_SRA_H : Gives (({ start with h := 0xFF }).cells [(0x0100, 0xCB), (0x0101, 0x2C)]) fun s => { s with f := 0x10, pc := 0x0102 } := by rfl
theorem test_V159_SWAP_A : Gives (({ start with a := 0xA5, f := 0x10 }).cells [(0x0100, 0xCB), (0x0101, 0x37)]) fun s => { s with a := 0x5A, f := 0x00, pc := 0x0102 } := by rfl
theorem test_V160_SWAP_B : Gives (({ start with f := 0x70 }).cells [(0x0100, 0xCB), (0x0101, 0x30)]) fun s => { s with f := 0x80, pc := 0x0102 } := by rfl
theorem test_V161_SRL_HL : Gives (({ start with h := 0xC0 }).cells [(0x0100, 0xCB), (0x0101, 0x3E), (0xC000, 0xFF)]) fun s => ({ s with f := 0x10, pc := 0x0102 }).cells [(0xC000, 0x7F)] := by rfl
theorem test_V162_SRL_A : Gives (({ start with a := 0x01 }).cells [(0x0100, 0xCB), (0x0101, 0x3F)]) fun s => { s with a := 0x00, f := 0x90, pc := 0x0102 } := by rfl
theorem test_V163_RLC_HL : Gives (({ start with h := 0x20 }).cells [(0x0100, 0xCB), (0x0101, 0x06), (0x2000, 0x80)]) fun s => { s with f := 0x10, pc := 0x0102 } := by rfl
theorem test_V164_BIT_0_B : Gives (({ start with f := 0x10, b := 0x01 }).cells [(0x0100, 0xCB), (0x0101, 0x40)]) fun s => { s with f := 0x30, pc := 0x0102 } := by rfl
theorem test_V166_BIT_7_A : Gives (({ start with a := 0x80, f := 0xC0 }).cells [(0x0100, 0xCB), (0x0101, 0x7F)]) fun s => { s with f := 0x20, pc := 0x0102 } := by rfl
theorem test_V167_BIT_7_HL : Gives (({ start with h := 0xC0 }).cells [(0x0100, 0xCB), (0x0101, 0x7E), (0xC000, 0x7F)]) fun s => { s with f := 0xA0, pc := 0x0102 } := by rfl
theorem test_V168_BIT_3_HL : Gives (({ start with h := 0xFE, l := 0xF0 }).cells [(0x0100, 0xCB), (0x0101, 0x5E)]) fun s => { s with f := 0xA0, pc := 0x0102 } := by rfl
theorem test_V169_RES_0_A : Gives (({ start with a := 0xFF, f := 0xF0 }).cells [(0x0100, 0xCB), (0x0101, 0x87)]) fun s => { s with a := 0xFE, pc := 0x0102 } := by rfl
theorem test_V170_RES_7_HL : Gives (({ start with h := 0xC0 }).cells [(0x0100, 0xCB), (0x0101, 0xBE), (0xC000, 0xFF)]) fun s => ({ s with pc := 0x0102 }).cells [(0xC000, 0x7F)] := by rfl
theorem test_V171_SET_7_HL : Gives (({ start with h := 0xC0 }).cells [(0x0100, 0xCB), (0x0101, 0xFE), (0xC000, 0x01)]) fun s => ({ s with pc := 0x0102 }).cells [(0xC000, 0x81)] := by rfl
theorem test_V172_SET_0_B : Gives (({ start with f := 0xF0, b := 0x01 }).cells [(0x0100, 0xCB), (0x0101, 0xC0)]) fun s => { s with pc := 0x0102 } := by rfl
theorem test_V173_SET_1_E : Gives (start.cells [(0x0100, 0xCB), (0x0101, 0xCB)]) fun s => { s with e := 0x02, pc := 0x0102 } := by rfl
theorem test_V180_JP_a16 : Gives (start.cells [(0x0100, 0xC3), (0x0101, 0x50), (0x0102, 0x01)]) fun s => { s with pc := 0x0150 } := by rfl
theorem test_V182_JP_Z_a16 : Gives (({ start with f := 0x80 }).cells [(0x0100, 0xCA), (0x0101, 0x00), (0x0102, 0x02)]) fun s => { s with pc := 0x0200 } := by rfl
theorem test_V183_JP_Z_a16 : Gives (start.cells [(0x0100, 0xCA), (0x0101, 0x00), (0x0102, 0x02)]) fun s => { s with pc := 0x0103 } := by rfl
theorem test_V184_JP_NZ_a16 : Gives (({ start with f := 0x80 }).cells [(0x0100, 0xC2), (0x0101, 0x00), (0x0102, 0x02)]) fun s => { s with pc := 0x0103 } := by rfl
theorem test_V185_JP_NC_a16 : Gives (start.cells [(0x0100, 0xD2), (0x0101, 0x00), (0x0102, 0x02)]) fun s => { s with pc := 0x0200 } := by rfl
theorem test_V186_JP_C_a16 : Gives (({ start with f := 0x10 }).cells [(0x0100, 0xDA), (0x0101, 0x00), (0x0102, 0x02)]) fun s => { s with pc := 0x0200 } := by rfl
theorem test_V187_JP_HL : Gives (({ start with h := 0xC1, l := 0x23 }).cells [(0x0100, 0xE9)]) fun s => { s with pc := 0xC123 } := by rfl
theorem test_V192_JR_e8 : Gives (({ start with pc := 0xFFFE }).cells [(0xFFFE, 0x18), (0xFFFF, 0x02)]) fun s => { s with pc := 0x0002 } := by rfl
theorem test_V193_JR_e8 : Gives (({ start with pc := 0x0000 }).cells [(0x0000, 0x18), (0x0001, 0xFD)]) fun s => { s with pc := 0xFFFF } := by rfl
theorem test_V194_JR_NZ_e8 : Gives (({ start with pc := 0x0105 }).cells [(0x0105, 0x20), (0x0106, 0xFD)]) fun s => { s with pc := 0x0104 } := by rfl
theorem test_V196_JR_Z_e8 : Gives (({ start with f := 0x80 }).cells [(0x0100, 0x28), (0x0101, 0x10)]) fun s => { s with pc := 0x0112 } := by rfl
theorem test_V197_JR_NC_e8 : Gives (({ start with f := 0x10 }).cells [(0x0100, 0x30), (0x0101, 0x10)]) fun s => { s with pc := 0x0102 } := by rfl
theorem test_V199_JR_C_e8 : Gives (({ start with f := 0x10 }).cells [(0x0100, 0x38), (0x0101, 0x80)]) fun s => { s with pc := 0x0082 } := by rfl
theorem test_V200_CALL_a16 : Gives (({ start with sp := 0xFFFE, pc := 0x0150 }).cells [(0x0150, 0xCD), (0x0151, 0x00), (0x0152, 0x02)]) fun s => ({ s with sp := 0xFFFC, pc := 0x0200 }).cells [(0xFFFC, 0x53), (0xFFFD, 0x01)] := by rfl
theorem test_V201_CALL_C_a16 : Gives (({ start with f := 0x10, sp := 0xFFFE, pc := 0x0150 }).cells [(0x0150, 0xDC), (0x0151, 0x00), (0x0152, 0x02)]) fun s => ({ s with sp := 0xFFFC, pc := 0x0200 }).cells [(0xFFFC, 0x53), (0xFFFD, 0x01)] := by rfl
theorem test_V202_CALL_C_a16 : Gives (({ start with sp := 0xFFFE, pc := 0x0150 }).cells [(0x0150, 0xDC), (0x0151, 0x00), (0x0152, 0x02)]) fun s => { s with pc := 0x0153 } := by rfl
theorem test_V203_CALL_NZ_a16 : Gives (({ start with sp := 0xD000 }).cells [(0x0100, 0xC4), (0x0101, 0x34), (0x0102, 0x12)]) fun s => ({ s with sp := 0xCFFE, pc := 0x1234 }).cells [(0xCFFE, 0x03), (0xCFFF, 0x01)] := by rfl
theorem test_V206_RET : Gives (({ start with sp := 0xFFFF }).cells [(0x0100, 0xC9), (0xFFFF, 0x40)]) fun s => { s with sp := 0x0001, pc := 0x0040 } := by rfl
theorem test_V207_RET_Z : Gives (({ start with f := 0x80, sp := 0xFFFC, pc := 0x0210 }).cells [(0x0210, 0xC8), (0xFFFC, 0x53), (0xFFFD, 0x01)]) fun s => { s with sp := 0xFFFE, pc := 0x0153 } := by rfl
theorem test_V208_RET_Z : Gives (({ start with sp := 0xFFFC, pc := 0x0210 }).cells [(0x0210, 0xC8), (0xFFFC, 0x53), (0xFFFD, 0x01)]) fun s => { s with pc := 0x0211 } := by rfl
theorem test_V209_RET_NC : Gives (({ start with f := 0x10, sp := 0xC000 }).cells [(0x0100, 0xD0), (0xC000, 0x00), (0xC001, 0x30)]) fun s => { s with pc := 0x0101 } := by rfl
theorem test_V210_RETI : Gives (({ start with sp := 0xFFFC }).cells [(0x0100, 0xD9), (0xFFFC, 0x53), (0xFFFD, 0x01)]) fun s => { s with sp := 0xFFFE, pc := 0x0153, ime := true, commands := [.intEnable] } := by rfl
theorem test_V211_RST_0x28 : Gives (({ start with sp := 0xFFFE, pc := 0x0150 }).cells [(0x0150, 0xEF)]) fun s => ({ s with sp := 0xFFFC, pc := 0x0028 }).cells [(0xFFFC, 0x51), (0xFFFD, 0x01)] := by rfl
theorem test_V212_RST_0x00 : Gives (({ start with sp := 0xD000, pc := 0x7FFF }).cells [(0x7FFF, 0xC7)]) fun s => ({ s with sp := 0xCFFE, pc := 0x0000 }).cells [(0xCFFF, 0x80)] := by rfl
theorem test_V213_RST_0x38 : Gives (({ start with sp := 0x0002, pc := 0x0038 }).cells [(0x0038, 0xFF)]) fun s => { s with sp := 0x0000 } := by rfl
theorem test_V221_STOP : Gives (start.cells [(0x0100, 0x10), (0x0101, 0x00)]) fun s => { s with pc := 0x0101 } := by rfl
theorem test_V222_HALT : Gives (start.cells [(0x0100, 0x76)]) fun s => { s with pc := 0x0101, halted := true } := by rfl
theorem test_V224_DI : Gives (({ start with ime := true }).cells [(0x0100, 0xF3)]) fun s => { s with pc := 0x0101, ime := false, commands := [.intDisable] } := by rfl
theorem test_V225_EI : Gives (start.cells [(0x0100, 0xFB)]) fun s => { s with pc := 0x0101, ime := true, commands := [.intEnable] } := by rfl
theorem test_V226_ILLEGAL : Gives (({ start with f := 0xF0 }).cells [(0x0100, 0xDD)]) fun s => { s with pc := 0x0101 } := by rfl
theorem test_V240_LD_A_d8 : Gives (({ start with pc := 0xFFFF }).cells [(0xFFFF, 0x3E), (0x0000, 0x77), (0x0000, 0x77)]) fun s => { s with a := 0x77, pc := 0x0001 } := by rfl
theorem test_V241_LD_HL_d16 : Gives (({ start with pc := 0xFFFE }).cells [(0xFFFE, 0x21), (0xFFFF, 0x34), (0x0000, 0x12), (0x0000, 0x12)]) fun s => { s with h := 0x12, l := 0x34, pc := 0x0001 } := by rfl
theorem test_V243_NOP : Gives (({ start with pc := 0xFEA0 }).cells []) fun s => { s with pc := 0xFEA1 } := by rfl

/-- M9, M10, M11, M13: words across regions and at 0xFFFF. -/
theorem test_M9_M10_M11_M13_words :
    ((start.cells [(0x7FFF, 0x12)]).write16 0x7FFF 0xA1B2).read16 0x7FFF = 0xA112 ∧ (start.write16 0xFDFF 0x3344).read16 0xFDFF = 0x3344 ∧
    (start.write16 0xFE9F 0x5566).read16 0xFE9F = 0x0066 ∧ (start.write16 0xFFFF 0x99AA).read16 0xFFFF = 0x00AA := by decide

/-- M13 under `wrap`: the high byte is `ROM[0]`. -/
theorem test_M13_wrap :
    (({ start with params := { wordAtFFFF := .wrap } }.cells [(0x0000, 0x31)]).write16 0xFFFF 0x99AA).read16 0xFFFF = 0x31AA := by decide

/-- M4, M5, M7: the echo and where it ends. -/
theorem test_M4_M5_M7_echo :
    (start.write8 0xE123 0xAA).mem = [(0xC123, 0xAA)] ∧ (start.write8 0xFDFF 0xBB).mem = [(0xDDFF, 0xBB)] ∧
    (start.write8 0xDE00 0x11).read8 .data0 0xFE00 = 0x00 := by decide

/-- V36 and V221, V226 under the other values of the parameters (R124, R221, R225). -/
theorem test_other_parameter_values :
    Gives ({ start with f := 0xF0, sp := 0xFFF8, params := { ldhlFlags := .unaffected } }.cells [(0x0100, 0xF8), (0x0101, 0x02)])
      (fun s => { s with h := 0xFF, l := 0xFA, pc := 0x0102 }) ∧
    Gives ({ start with params := { stopLength := .two } }.cells [(0x0100, 0x10)]) (fun s => { s with pc := 0x0102 }) ∧
    step ({ start with params := { illegalPolicy := .fault } }.cells [(0x0100, 0xDD)]) = .fault (.decodeFailure 0x0100 0xDD) :=
  ⟨rfl, rfl, rfl⟩

/-- With `CART_RAM` absent a store there is discarded and a read is the free byte of the step's draw (R34). -/
theorem test_M16_absent :
    (({ start with params := { cartRam := .absent } } : State).write8 0xA000 0x5A).mem = [] ∧
    Gives ({ start with h := 0xA0, params := { cartRam := .absent } }.cells [(0x0100, 0x7E)])
      (fun s => { s with a := Config.freeByte 1 .data0, pc := 0x0101, draws := 1 }) := ⟨rfl, rfl⟩

/-- V223: a halted step changes nothing, and after a wake the machine goes on (R245). -/
theorem test_V223_halted :
    act .step { start with halted := true } = .next { start with halted := true } ∧
    acts [.step, .wake, .step] ({ start with halted := true }.cells [(0x0100, 0x3C)]) =
      .next ({ start with a := 0x01, pc := 0x0101 }.cells [(0x0100, 0x3C)]) := ⟨rfl, rfl⟩

/-- R223's corner case, R210's, R266: a command that leaves `ime` as it was goes out all the same, and an observer gets the whole stream,
oldest first; a halted step issues nothing (R252) and a wake leaves the stream (R245). -/
theorem test_port_commands :
    allReturned [.step, .step, .step, .observePort, .step, .wake, .step, .observePort]
        ({ start with sp := 0xC000 }.cells [(0x0100, 0xF3), (0x0101, 0xFB), (0x0102, 0x76), (0x0103, 0xD9)]) =
      [.nothing, .nothing, .nothing, .port true [.intDisable, .intEnable], .nothing, .nothing, .nothing,
        .port true [.intDisable, .intEnable, .intEnable]] := rfl

/-- The report of R225 is returned with its address and byte. -/
theorem test_returned_decode_failure :
    allReturned [.observePort, .step, .step] ({ start with params := { illegalPolicy := .fault } }.cells [(0x0100, 0xDD)]) =
      [.port false [], .decodeFailure 0x0100 0xDD] := rfl

/-! ## A witness for the hypotheses of every obligation that has some -/

/-- An absent cartridge RAM. -/
def absent : Params := { cartRam := .absent }

/-- The diagnostic policy of R225. -/
def faulting : Params := { illegalPolicy := .fault }

/-- A state in which every flag is set. -/
def allFlags : State := { start with f := 0xF0 }

theorem test_witness_DecoderUsesExactlyItsBytes :
    (decode 0x06 0xAB 0x00).encodedLength ≤ 2 ∧ (decode 0x00 0x34 0x12).encodedLength ≤ 1 ∧ (decode 0xCD 0x34 0x12).encodedLength = 3 :=
  ⟨by decide, by decide, rfl⟩

theorem test_witness_VariantsAndRowsCorrespond :
    Variant.wellFormed (.RST 0x38) = true ∧ (Instr.RST_0x38).variant = .RST 0x38 ∧ Variant.wellFormed (.RST 0x39) = false := ⟨rfl, rfl, rfl⟩

/-- Both values of `CART_RAM`, and the instruction at the top of the address space. -/
theorem test_witness_StepRunsTheDecodedInstruction :
    (∀ p ∈ [Params.default, absent], ({ start with pc := 0xFFFF, params := p } : State).halted = false) ∧
    decodeBytes [({ start with pc := 0xFFFF } : State).read8 .fetch0 0xFFFF, ({ start with pc := 0xFFFF } : State).read8 .fetch1 (0xFFFF + 1),
        ({ start with pc := 0xFFFF } : State).read8 .fetch2 (0xFFFF + 2)] =
      .ok (.NOP, [0x00, 0x00]) ∧
    ({ start with params := absent } : State).params.cartRam = .absent ∧ start.params.cartRam = .present := ⟨by decide, rfl, rfl, rfl⟩

theorem test_witness_StepFollowsTheProtocol :
    ({ start with halted := true } : State).halted = true ∧ start.halted = false ∧
    (exec (.JP_Z_a16 0x0200) allFlags = .next { allFlags with pc := 0x0200 } ∧ allFlags.branches (.JP_cc_a16 .Z 0x0200) = true) ∧
    (exec (.JP_Z_a16 0x0200) start = .next { start with pc := 0x0103 } ∧ start.branches (.JP_cc_a16 .Z 0x0200) = false) :=
  ⟨rfl, rfl, ⟨rfl, rfl⟩, rfl, rfl⟩

/-- Both alternatives of the last clause occur. -/
theorem test_witness_StepIsTotal :
    ({ start with halted := true } : State).halted = true ∧ start.params.illegalPolicy = .nop ∧ step start = .next { start with pc := 0x0101 } ∧
    step ({ start with params := faulting }.cells [(0x0100, 0xD3)]) = .fault (.decodeFailure 0x0100 0xD3) ∧
    step ({ start with params := faulting }.cells [(0x0100, 0xFD)]) = .fault (.decodeFailure 0x0100 0xFD) := ⟨rfl, rfl, rfl, rfl, rfl⟩

theorem test_witness_RunsNeverStopUnderTheDefaultPolicy : State.reset.params.illegalPolicy = .nop := rfl

/-- A step that stores: LD (HL),A at 0x7FFF, the last ROM address, and at 0x8000. -/
theorem test_witness_RomAndParametersAreNeverWritten :
    step ({ start with a := 0x5A, h := 0x7F, l := 0xFF }.cells [(0x0100, 0x77)]) =
      .next ({ start with a := 0x5A, h := 0x7F, l := 0xFF, pc := 0x0101 }.cells [(0x0100, 0x77)]) ∧
    step ({ start with a := 0x5A, h := 0x80 }.cells [(0x0100, 0x77)]) =
      .next ({ start with a := 0x5A, h := 0x80, pc := 0x0101 }.cells [(0x0100, 0x77), (0x8000, 0x5A)]) := ⟨rfl, rfl⟩

/-- A good state that steps, under both values of `CART_RAM`. -/
theorem test_witness_StepKeepsTheInvariant :
    ({ allFlags with params := absent } : State).Inv ∧
    step { allFlags with params := absent } = .next { allFlags with params := absent, pc := 0x0101, draws := 1 } ∧
    (allFlags.cells [(0xA000, 0x01), (0xFFFF, 0xFF)]).Inv ∧
    step (allFlags.cells [(0xA000, 0x01), (0xFFFF, 0xFF)]) = .next ({ allFlags with pc := 0x0101 }.cells [(0xA000, 0x01), (0xFFFF, 0xFF)]) ∧
    ({ start with ime := true, commands := [.intDisable, .intEnable] } : State).Inv ∧
    ¬ ({ start with ime := false, commands := [.intDisable, .intEnable] } : State).Inv :=
  ⟨by decide, rfl, by decide, rfl, by decide, by decide⟩

theorem test_witness_ReachableStatesHaveTheInvariant : Reachable { start with pc := 0x0000, halted := false } :=
  Reachable.powerOn Params.default [] {} (by decide)

theorem test_witness_ResetValuesAreAsStated :
    region 0x8000 ≠ .rom ∧ region 0xFFFF ≠ .rom ∧ (0x7FFF : Word).toNat ≤ 0x7FFF ∧ region 0x7FFF = .rom := by decide

/-- INC B, AND B, XOR B, SCF, NOP, POP AF: each kind of cell, and a row without effect. -/
theorem test_witness_FlagTableHolds :
    (∃ t, exec .INC_B allFlags = .next t) ∧ (Instr.INC_B.variant.flagRow Params.default).cell .C = .unaffected ∧
    (Instr.INC_B.variant.flagRow Params.default).cell .N = .zero ∧
    (∃ t, exec .AND_B allFlags = .next t) ∧ (Instr.AND_B.variant.flagRow Params.default).cell .H = .one ∧
    (∃ t, exec .NOP allFlags = .next t) ∧ (∀ fl : Flag, (Instr.NOP.variant.flagRow Params.default).cell fl = .unaffected) ∧
    Instr.INC_B.variant ≠ .POP_AF :=
  ⟨⟨_, rfl⟩, rfl, rfl, ⟨_, rfl⟩, rfl, ⟨_, rfl⟩, by intro fl; cases fl <;> rfl, nofun⟩

/-- CPL writes N and H and leaves Z and C; POP AF writes all four; ADC is listed. -/
theorem test_witness_FlagsAreReadOnlyWhereListed :
    (readsFlags Instr.CPL.variant = false ∧ (∃ t, exec .CPL allFlags = .next t) ∧
      (Instr.CPL.variant.flagRow Params.default).cell .N ≠ .unaffected ∧ (Instr.CPL.variant.flagRow Params.default).cell .Z = .unaffected) ∧
    (readsFlags Instr.POP_AF.variant = false ∧ (∃ t, exec .POP_AF allFlags = .next t) ∧
      (Instr.POP_AF.variant.flagRow Params.default).cell .C ≠ .unaffected) ∧
    readsFlags Instr.ADC_A_B.variant = true :=
  ⟨⟨by decide, ⟨_, rfl⟩, by decide, by decide⟩, ⟨by decide, ⟨_, rfl⟩, by decide⟩, by decide⟩

theorem test_witness_RegistersOutsideTheDestinationAreKept :
    (∃ t, exec .INC_BC start = .next t) ∧ Reg8.A ≠ .F ∧ Reg8.A ∉ Instr.INC_BC.variant.regsWritten ∧ Instr.INC_BC.variant.mayWriteSP = false ∧
    (∃ t, exec (.CALL_Z_a16 0x0200) start = .next t) ∧ start.branches (Instr.CALL_Z_a16 0x0200).variant = false ∧
    (Instr.CALL_Z_a16 0x0200).variant.cond?.isSome = true := ⟨⟨_, rfl⟩, by decide, by decide, rfl, ⟨_, rfl⟩, rfl, rfl⟩

/-- A word stored at 0xFFFE, a word at 0xFFFF (one byte), and a form that stores nothing. -/
theorem test_witness_MemoryOutsideTheStoredBytesIsKept :
    (∃ t, exec (.LD_a16m_SP 0xFFFE) start = .next t) ∧ start.storeAddrs (.LD_a16_SP 0xFFFE) = [0xFFFE, 0xFFFF] ∧
    cellOf 0xFFFD ≠ cellOf 0xFFFE ∧ cellOf 0xFFFD ≠ cellOf 0xFFFF ∧
    start.storeAddrs (.LD_a16_SP 0xFFFF) = [0xFFFF] ∧ (∃ t, exec .CP_HLm start = .next t) ∧ start.storeAddrs Instr.CP_HLm.variant = [] :=
  ⟨⟨_, rfl⟩, rfl, by decide, by decide, rfl, ⟨_, rfl⟩, rfl⟩

/-- Each command with the mirror as it was and changed, an instruction without a command, and a sequence of events. -/
theorem test_witness_PortCommandsSetTheMirror :
    (∃ t, exec .EI start = .next t ∧ t.ime = true ∧ t.commands = [.intEnable]) ∧
    (∃ t, exec .DI { start with commands := [.intDisable] } = .next t ∧ t.ime = false ∧ t.commands = [.intDisable, .intDisable]) ∧
    (∃ t, exec .RETI { start with ime := true } = .next t ∧ t.ime = true ∧ t.commands = [.intEnable]) ∧
    (∃ t, exec .NOP { start with ime := true } = .next t ∧ t.ime = true ∧ t.commands = []) ∧
    ∃ t, acts [.step, .wake, .observePort] (start.cells [(0x0100, 0xFB)]) = .next t ∧ t.commands = [.intEnable] :=
  ⟨⟨_, rfl, rfl, rfl⟩, ⟨_, rfl, rfl, rfl⟩, ⟨_, rfl, rfl, rfl⟩, ⟨_, rfl, rfl, rfl⟩, _, rfl, rfl⟩

theorem test_witness_HaltedIsSetOnlyByHalt :
    (∃ t, exec .HALT start = .next t ∧ t.halted = true) ∧ ∃ t, exec .STOP start = .next t ∧ t.halted = false := ⟨⟨_, rfl, rfl⟩, _, rfl, rfl⟩

theorem test_witness_ImeIsReadByNothing :
    step start = .next { start with pc := 0x0101 } ∧
    step (start.cells [(0x0100, 0xFB)]) = .next { start.cells [(0x0100, 0xFB)] with pc := 0x0101, ime := true, commands := [.intEnable] } ∧
    step ({ start with params := faulting }.cells [(0x0100, 0xFD)]) = .fault (.decodeFailure 0x0100 0xFD) := ⟨rfl, rfl, rfl⟩

/-- With `CART_RAM` present every address; absent, the ends of every range but cartridge RAM. -/
theorem test_witness_ReadsAreRoutedByTheTable :
    (∀ a ∈ ([0xA000, 0xBFFF, 0xDFFF, 0xE000] : List Word),
      start.params.cartRam = .present ∨ ¬ (0xA000 ≤ a.toNat ∧ a.toNat ≤ 0xBFFF)) ∧
    ∀ a ∈ ([0x0000, 0x7FFF, 0x8000, 0x9FFF, 0xC000, 0xDFFF, 0xE000, 0xFDFF, 0xFE00, 0xFE9F, 0xFEA0, 0xFEFF, 0xFF00, 0xFFFF] : List Word),
      ({ start with params := absent } : State).params.cartRam = .present ∨ ¬ (0xA000 ≤ a.toNat ∧ a.toNat ≤ 0xBFFF) := by
  simp [start, absent, State.reset, Params.default]

/-- The first and last address of every range, and both values of `CART_RAM`. -/
theorem test_witness_WritesChangeOneCellOrNone :
    (∀ a ∈ ([0x0000, 0x7FFF, 0xFEA0, 0xFEFF] : List Word), a.toNat ≤ 0x7FFF ∨ (0xFEA0 ≤ a.toNat ∧ a.toNat ≤ 0xFEFF)) ∧
    (∀ a ∈ ([0xA000, 0xBFFF] : List Word), 0xA000 ≤ a.toNat ∧ a.toNat ≤ 0xBFFF) ∧
    start.params.cartRam = .present ∧ ({ start with params := absent } : State).params.cartRam = .absent ∧
    (∀ a ∈ ([0x8000, 0x9FFF, 0xC000, 0xDFFF, 0xFE00, 0xFE9F, 0xFF00, 0xFFFF] : List Word),
      (0x8000 ≤ a.toNat ∧ a.toNat ≤ 0x9FFF) ∨ (0xC000 ≤ a.toNat ∧ a.toNat ≤ 0xDFFF) ∨ (0xFE00 ≤ a.toNat ∧ a.toNat ≤ 0xFE9F) ∨
        0xFF00 ≤ a.toNat) ∧
    ∀ a ∈ ([0xE000, 0xFDFF] : List Word), 0xE000 ≤ a.toNat ∧ a.toNat ≤ 0xFDFF := by
  simp [start, absent, State.reset, Params.default]

theorem test_witness_EchoIsTheSameCell :
    (∀ a ∈ ([0xE000, 0xFDFF] : List Word), 0xE000 ≤ a.toNat ∧ a.toNat ≤ 0xFDFF) ∧
    ∀ b ∈ ([0xDE00, 0xDFFF] : List Word), 0xDE00 ≤ b.toNat ∧ b.toNat ≤ 0xDFFF := by simp

theorem test_witness_WordsAreTwoRoutedBytes :
    (0xFFFE : Word) ≠ 0xFFFF ∧ start.params.wordAtFFFF = .unmapped ∧
    ({ start with params := { wordAtFFFF := .wrap } } : State).params.wordAtFFFF = .wrap := by decide

/-- The topmost stack word that is stored, at 0xFFFE, and one across the end of working RAM into the echo. -/
theorem test_witness_PushThenPopRestores :
    WordStored { start with sp := 0x0000 } (0x0000 - 2) ∧ WordStored { start with sp := 0xE001 } (0xE001 - 2) := by
  unfold WordStored; decide

theorem test_witness_LoadsBetweenRegistersAndHLMoveTheByte :
    Instr.LD_H_L.variant = .LD_r_r .H .L ∧ (Instr.LD_A_d8 0xFF).variant = .LD_r_d8 .A 0xFF ∧ Instr.LD_L_HLm.variant = .LD_r_HLm .L ∧
    Instr.LD_HLm_H.variant = .LD_HLm_r .H ∧ (Instr.LD_HLm_d8 0x42).variant = .LD_HLm_d8 0x42 := ⟨rfl, rfl, rfl, rfl, rfl⟩

theorem test_witness_WideLoadsMoveTheWord :
    (Instr.LD_SP_d16 0xFFFF).variant = .LD_rr_d16 .SP 0xFFFF ∧ (Instr.LD_HL_d16 0x0000).variant = .LD_rr_d16 .HL 0x0000 := ⟨rfl, rfl⟩

theorem test_witness_LdhlAddsTheSignedOffset :
    start.params.ldhlFlags = .hardware ∧ ({ start with params := { ldhlFlags := .unaffected } } : State).params.ldhlFlags = .unaffected :=
  ⟨rfl, rfl⟩

theorem test_witness_PushAndPopMoveThePair : Instr.PUSH_AF.variant = .PUSH_rr .AF ∧ Instr.POP_HL.variant = .POP_rr .HL := ⟨rfl, rfl⟩

/-- The three shapes, ADD without and ADC with a carry. -/
theorem test_witness_AddAndAdcGiveTheSum :
    (AluForm .ADD .ADD_A_B start start.b 1 ∧ (0 : Nat) = 0) ∧ AluForm .ADD .ADD_A_HLm start (start.read8 .data0 start.hl) 1 ∧
    (AluForm .ADC (.ADC_A_d8 0xFF) allFlags 0xFF 2 ∧ 1 = num (allFlags.flag .C)) :=
  ⟨⟨.inl ⟨.reg .B, rfl, rfl, rfl⟩, rfl⟩, .inl ⟨.HLm, rfl, rfl, rfl⟩, .inr ⟨rfl, rfl⟩, rfl⟩

theorem test_witness_SubSbcAndCpGiveTheDifference :
    AluForm .SUB .SUB_A start start.a 1 ∧ (AluForm .SBC .SBC_A_HLm allFlags (allFlags.read8 .data0 allFlags.hl) 1 ∧
      1 = num (allFlags.flag .C)) ∧ AluForm .CP (.CP_d8 0x00) start 0x00 2 :=
  ⟨.inl ⟨.reg .A, rfl, rfl, rfl⟩, ⟨.inl ⟨.HLm, rfl, rfl, rfl⟩, rfl⟩, .inr ⟨rfl, rfl⟩⟩

theorem test_witness_LogicCombinesBitwise :
    (AluForm .AND .AND_B allFlags allFlags.b 1 ∧ (0x00 : Byte) = allFlags.a &&& allFlags.b ∧ true = true) ∧
    (AluForm .XOR (.XOR_d8 0xFF) allFlags 0xFF 2 ∧ (0xFF : Byte) = allFlags.a ^^^ 0xFF) ∧
    (AluForm .OR .OR_HLm allFlags (allFlags.read8 .data0 allFlags.hl) 1 ∧ (0x00 : Byte) = allFlags.a ||| allFlags.read8 .data0 allFlags.hl) :=
  ⟨⟨.inl ⟨.reg .B, rfl, rfl, rfl⟩, rfl, rfl⟩, ⟨.inr ⟨rfl, rfl⟩, rfl⟩, .inl ⟨.HLm, rfl, rfl, rfl⟩, rfl⟩

theorem test_witness_IncAndDecOfAByte : Instr.INC_HLm.variant = .INC_s .HLm ∧ Instr.DEC_A.variant = .DEC_s (.reg .A) := ⟨rfl, rfl⟩

/-- After an addition and after a subtraction; A = 0x99 and 0x9A are the edge of the high adjustment. -/
theorem test_witness_DaaAdjustsByItsRule :
    ({ start with a := 0x9A } : State).flag .N = false ∧ ({ start with a := 0x99 } : State).flag .N = false ∧ allFlags.flag .N = true := by
  decide

theorem test_witness_DaaGivesDecimalArithmetic :
    99 < 100 ∧ ({ start with a := 0x99 } : State).a = bcd 99 ∧ start.a = bcd 0 := by decide

/-- A register, and the byte at HL in a read/write cell. -/
theorem test_witness_IncThenDecRestores :
    Instr.INC_H.variant = .INC_s (.reg .H) ∧ Instr.DEC_H.variant = .DEC_s (.reg .H) ∧
    Instr.INC_HLm.variant = .INC_s .HLm ∧ Instr.DEC_HLm.variant = .DEC_s .HLm ∧
    ({ start with h := 0xFF, l := 0xFF } : State).writable ({ start with h := 0xFF, l := 0xFF } : State).hl = true := ⟨rfl, rfl, rfl, rfl, rfl⟩

theorem test_witness_PairArithmetic :
    Instr.ADD_HL_HL.variant = .ADD_HL_rr .HL ∧ Instr.INC_SP.variant = .INC_rr .SP ∧ Instr.DEC_BC.variant = .DEC_rr .BC := ⟨rfl, rfl, rfl⟩

theorem test_witness_AccumulatorRotatesLeaveZ :
    (Instr.RLCA = .RLCA ∧ (0x07 : Byte) = 0x07 ∧ rotateLeft1 start.a (bitAt start.a 7) = rotateLeft1 start.a (bitAt start.a 7)) ∧
    Instr.RLA = .RLA ∧ Instr.RRCA = .RRCA ∧ Instr.RRA = .RRA := ⟨⟨rfl, rfl, rfl⟩, rfl, rfl, rfl⟩

theorem test_witness_CbRotatesAndShifts :
    Instr.RLC_B.variant = .ROT_s .RLC (.reg .B) ∧ Instr.RRC_HLm.variant = .ROT_s .RRC .HLm ∧ Instr.RL_C.variant = .ROT_s .RL (.reg .C) ∧
    Instr.RR_D.variant = .ROT_s .RR (.reg .D) ∧ Instr.SLA_E.variant = .ROT_s .SLA (.reg .E) ∧ Instr.SRA_H.variant = .ROT_s .SRA (.reg .H) ∧
    Instr.SWAP_L.variant = .ROT_s .SWAP (.reg .L) ∧ Instr.SRL_A.variant = .ROT_s .SRL (.reg .A) := ⟨rfl, rfl, rfl, rfl, rfl, rfl, rfl, rfl⟩

theorem test_witness_BitResAndSet :
    Instr.BIT_0_B.variant = .BIT_b_s 0 (.reg .B) ∧ Instr.RES_7_HLm.variant = .RES_b_s 7 .HLm ∧ Instr.SET_7_A.variant = .SET_b_s 7 (.reg .A) :=
  ⟨rfl, rfl, rfl⟩

theorem test_witness_AbsoluteJumps : (Instr.JP_NC_a16 0xFFFF).variant = .JP_cc_a16 .NC 0xFFFF ∧ condTrue start .NC = true ∧
    condTrue allFlags .NC = false := ⟨rfl, rfl, rfl⟩

theorem test_witness_JumpsThroughHLAndRelative : (Instr.JR_C_e8 0x80).variant = .JR_cc_e8 .C 0x80 ∧ condTrue allFlags .C = true := ⟨rfl, rfl⟩

theorem test_witness_CallsPushTheFollowingAddress :
    (Instr.CALL_NZ_a16 0x0200).variant = .CALL_cc_a16 .NZ 0x0200 ∧ condTrue start .NZ = true ∧ condTrue allFlags .NZ = false := ⟨rfl, rfl, rfl⟩

theorem test_witness_RstCallsAFixedAddress : Instr.RST_0x00.variant = .RST 0x00 ∧ Instr.RST_0x38.variant = .RST 0x38 := ⟨rfl, rfl⟩

theorem test_witness_ReturnsPopTheAddress : Instr.RET_Z.variant = .RET_cc .Z ∧ condTrue allFlags .Z = true ∧ condTrue start .Z = false :=
  ⟨rfl, rfl, rfl⟩

/-- CALL with the stack word at 0xFFFE, the topmost that is stored, and a taken CALL cc. -/
theorem test_witness_ReturnComesBackAfterTheCall :
    WordStored { start with sp := 0x0000 } (0x0000 - 2) ∧ WordStored { allFlags with sp := 0xFFFE } (0xFFFE - 2) ∧
    (Instr.CALL_C_a16 0x0200).variant = .CALL_cc_a16 .C 0x0200 ∧ condTrue { allFlags with sp := 0xFFFE } .C = true := by
  unfold WordStored; exact ⟨by decide, by decide, rfl, rfl⟩

theorem test_witness_NopStopHaltDiAndEi :
    start.params.stopLength = .one ∧ ({ start with params := { stopLength := .two } } : State).params.stopLength = .two := ⟨rfl, rfl⟩

theorem test_witness_IllegalBytesFollowThePolicy :
    (0xD3 : Byte) ∈ illegalBytes ∧ (0xFD : Byte) ∈ illegalBytes ∧ Instr.ILLEGAL_FD.variant = .ILLEGAL 0xFD ∧
    start.params.illegalPolicy = .nop ∧ ({ start with params := faulting } : State).params.illegalPolicy = .fault :=
  ⟨by decide, by decide, rfl, rfl, rfl⟩

/-- A store at 0xDDFF and its echo at 0xFDFF. -/
theorem test_witness_FetchSeesTheLatestStore : start.writable 0xDDFF = true ∧ cellOf 0xFDFF = cellOf 0xDDFF := by decide

/-- Bits 0 and 7, the ends of the range of the statements about every bit of a byte (flags, shifts). -/
theorem test_witness_bit_ranges : (0 : Nat) < 8 ∧ 7 < 8 ∧ Flag.Z.bit = 7 ∧ Flag.C.bit = 4 := by decide

end Sys2Proof.Tests
end

/-! SUPPORT. What an instruction can do to memory and to the parameters, said once: it stores some bytes at the addresses `State.storeAddrs`
names (R48), one `write8` after another, and writes no parameter (R4). -/

namespace Sys2Proof.Machine

/-- The state after some bytes are stored one after another. -/
def State.store (s : State) : List (Word × Byte) → State
  | [] => s
  | (a, v) :: rest => (s.write8 a v).store rest

@[simp] theorem State.store_nil (s : State) : s.store [] = s := rfl
@[simp] theorem State.store_cons (s : State) (a : Word) (v : Byte) (rest : List (Word × Byte)) :
    s.store ((a, v) :: rest) = (s.write8 a v).store rest := rfl

@[simp] theorem State.store_params (s : State) (bytes : List (Word × Byte)) : (s.store bytes).params = s.params := by
  induction bytes generalizing s with
  | nil => rfl
  | cons c rest ih => rw [State.store_cons, ih, State.write8_params]

/-- What the stores leave in memory depends on memory and parameters only. -/
theorem State.store_mem_congr {s t : State} (hm : t.mem = s.mem) (hp : t.params = s.params) (bytes : List (Word × Byte)) :
    (t.store bytes).mem = (s.store bytes).mem := by
  induction bytes generalizing s t with
  | nil => exact hm
  | cons c rest ih =>
    obtain ⟨a, v⟩ := c
    refine ih ?_ (by simpa using hp)
    rw [State.write8_mem, State.write8_mem, State.writable_congr hp, hm]

theorem State.store_preserves {P : State → Prop} (one : ∀ (s : State) (a : Word) (v : Byte), P s → P (s.write8 a v))
    {s : State} (bytes : List (Word × Byte)) (h : P s) : P (s.store bytes) := by
  induction bytes generalizing s with
  | nil => exact h
  | cons c rest ih => exact ih (one s c.1 c.2 h)

/-- A word write stores the low byte, then the high byte where it has an address (R44, R45). -/
theorem State.write16_eq_store (s : State) (a w : Word) : s.write16 a w = s.store ((s.wordAddrs a).zip [lo8 w, hi8 w]) := by
  unfold State.write16 State.wordAddrs
  cases s.highAddr? a <;> rfl

/-- `t` has the memory of `s` but for bytes stored at some of `addrs`, and the parameters of `s`. -/
def StoresAt (s : State) (addrs : List Word) (t : State) : Prop :=
  t.params = s.params ∧ ∃ bytes : List Byte, t.mem = (s.store (addrs.zip bytes)).mem

namespace StoresAt

variable {s t u : State} {addrs : List Word}

theorem params (h : StoresAt s addrs t) : t.params = s.params := h.1

/-- Only memory and parameters of the final state matter. -/
theorem congr (h : StoresAt s addrs u) (hm : t.mem = u.mem) (hp : t.params = u.params) : StoresAt s addrs t := by
  obtain ⟨hparams, bytes, hmem⟩ := h
  exact ⟨hp.trans hparams, bytes, hm.trans hmem⟩

/-- Only memory and parameters of the state before matter. -/
theorem rebase (h : StoresAt u addrs t) (hm : u.mem = s.mem) (hp : u.params = s.params) : StoresAt s addrs t := by
  obtain ⟨hparams, bytes, hmem⟩ := h
  exact ⟨hparams.trans hp, bytes, hmem.trans (State.store_mem_congr hm hp _)⟩

theorem advance (h : StoresAt s addrs u) (n : Nat) : StoresAt s addrs (u.advance n) := h.congr rfl rfl
theorem jump (h : StoresAt s addrs u) (a : Word) : StoresAt s addrs (u.jump a) := h.congr rfl rfl
theorem writeFlags (h : StoresAt s addrs u) (w : FlagWrite) : StoresAt s addrs (u.writeFlags w) := h.congr rfl rfl
theorem bumpHL (h : StoresAt s addrs u) (d : Word) : StoresAt s addrs (u.bumpHL d) := h.congr rfl rfl

theorem of_eq (addrs : List Word) (hm : t.mem = s.mem) (hp : t.params = s.params) : StoresAt s addrs t :=
  ⟨hp, [], by simpa using hm⟩

theorem write8 (s : State) (a : Word) (v : Byte) : StoresAt s [a] (s.write8 a v) :=
  ⟨s.write8_params a v, [v], rfl⟩

theorem write16 (s : State) (a w : Word) : StoresAt s (s.wordAddrs a) (s.write16 a w) :=
  ⟨s.write16_params a w, [lo8 w, hi8 w], congrArg State.mem (s.write16_eq_store a w)⟩

theorem writeLoc (s : State) (x : Loc8) (v : Byte) : StoresAt s (s.locAddrs x) (s.writeLoc x v) := by
  cases x with
  | reg r => exact of_eq _ (s.set8_mem r v) (s.set8_params r v)
  | HLm => exact write8 s s.hl v

theorem push16 (s : State) (w : Word) : StoresAt s (s.wordAddrs (s.sp - 2)) (s.push16 w) :=
  (write16 { s with sp := s.sp - 2 } (s.sp - 2) w).rebase rfl rfl

/-- A property of memory and parameters that every byte write keeps is kept by the stores. -/
theorem preserves {P : State → Prop} (h : StoresAt s addrs t)
    (congr : ∀ u v : State, v.mem = u.mem → v.params = u.params → P u → P v)
    (one : ∀ (u : State) (a : Word) (b : Byte), P u → P (u.write8 a b)) (hs : P s) : P t := by
  obtain ⟨hparams, bytes, hmem⟩ := h
  refine congr _ _ hmem (hparams.trans (State.store_params s _).symm) ?_
  exact State.store_preserves one _ hs

end StoresAt

end Sys2Proof.Machine

namespace Sys2Proof.Laws

open Sys2Proof.Machine

/-- An instruction stores at its store addresses only and writes no parameter (R4, R48). -/
theorem execVariant_storesAt {v : Variant} {s t : State} (h : execVariant v s = .next t) : StoresAt s (s.storeAddrs v) t := by
  cases v with
  | LD_HLm_r | LD_HLm_d8 | LD_BC_A | LD_DE_A | LD_a16_A | LDH_C_A | LDH_a8_A => cases h; exact (StoresAt.write8 s _ _).advance _
  | LDI_HL_A | LDD_HL_A => cases h; exact ((StoresAt.write8 s _ _).bumpHL _).advance _
  | LD_a16_SP => cases h; exact (StoresAt.write16 s _ _).advance _
  | INC_s | DEC_s | ROT_s => cases h; exact ((StoresAt.writeLoc s _ _).writeFlags _).advance _
  | RES_b_s | SET_b_s => cases h; exact (StoresAt.writeLoc s _ _).advance _
  | PUSH_rr => cases h; exact (StoresAt.push16 s _).advance _
  | CALL_a16 | RST => cases h; exact (StoresAt.push16 s _).jump _
  | CALL_cc_a16 cc a =>
    obtain ⟨hcc, h⟩ | ⟨-, h⟩ := ite_eq_iff.1 h <;> cases h
    · rw [show s.storeAddrs (.CALL_cc_a16 cc a) = s.wordAddrs (s.sp - 2) from if_pos hcc]
      exact (StoresAt.push16 s _).jump _
    · exact .of_eq _ rfl rfl
  | JP_cc_a16 | JR_cc_e8 | RET_cc =>
    obtain ⟨-, h⟩ | ⟨-, h⟩ := ite_eq_iff.1 h <;> cases h <;> exact .of_eq _ rfl rfl
  | LDHL_SP_e8 =>
    simp only [execVariant, exec_LDHL_SP_e8] at h
    split at h <;> cases h <;> exact .of_eq _ rfl rfl
  | ILLEGAL =>
    simp only [execVariant, illegalOp] at h
    split at h <;> cases h
    exact .of_eq _ rfl rfl
  | RET | RETI => cases h; exact .of_eq _ rfl rfl
  | _ => cases h; exact .of_eq _ (by simp) (by simp)

/-- An instruction has a next state, or it is one of the ILLEGAL rows under `ILLEGAL_POLICY = fault` and reports `decode_failure` (R20,
R225). -/
theorem execVariant_total (v : Variant) (s : State) :
    (∃ t, execVariant v s = .next t) ∨
      ∃ op, v = .ILLEGAL op ∧ s.params.illegalPolicy = .fault ∧ execVariant v s = .fault (.decodeFailure s.pc op) := by
  cases v with
  | ILLEGAL op =>
    cases hp : s.params.illegalPolicy with
    | nop => exact .inl ⟨s.advance 1, by simp [execVariant, illegalOp, hp, seq]⟩
    | fault => exact .inr ⟨op, rfl, rfl, by simp [execVariant, illegalOp, hp]⟩
  | LDHL_SP_e8 =>
    left; simp only [execVariant, exec_LDHL_SP_e8]
    split <;> exact ⟨_, rfl⟩
  | JP_cc_a16 | JR_cc_e8 | CALL_cc_a16 | RET_cc =>
    left; simp only [execVariant, jpIf, jrIf, callIf, retIf]
    split <;> exact ⟨_, rfl⟩
  | _ => exact .inl ⟨_, rfl⟩

/-- A step stores at some addresses and writes no parameter, whether it runs or is halted. -/
theorem step_storesAt {s t : State} (h : step s = .next t) : ∃ addrs, StoresAt s addrs t := by
  obtain ⟨-, rfl⟩ | ⟨-, h⟩ := step_cases h
  · exact ⟨[], .of_eq [] rfl rfl⟩
  · exact ⟨_, (execVariant_storesAt h).rebase s.tick_mem s.tick_params⟩

end Sys2Proof.Laws

/-! SUPPORT. ROM is never written (R33): a byte write leaves every read at a ROM address as it was, so every step does. -/

namespace Sys2Proof.Machine

theorem region_rom {a : Word} (h : a.toNat ≤ 0x7FFF) : region a = .rom := by
  rw [region_eq, cellOf, unecho, if_neg (by omega)]
  exact if_pos h

/-- A ROM read depends on memory alone (R31). -/
theorem State.read8_rom (s : State) (slot : ReadSlot) {a : Word} (h : region a = .rom) : s.read8 slot a = s.mem.get (cellOf a) := by
  simp [State.read8, h]

/-- A byte write goes to no ROM cell (R33). -/
theorem State.read8_rom_write8 (s : State) (a : Word) (v : Byte) (slot : ReadSlot) {b : Word} (h : region b = .rom) :
    (s.write8 a v).read8 slot b = s.read8 slot b := by
  rw [State.read8_write8, if_neg]
  rintro ⟨hcell, hwritable⟩
  have ha : region a = .rom := by rw [region_eq, ← hcell, ← region_eq, h]
  simp [State.writable, ha] at hwritable

/-- Every ROM address reads in `t` as in `s`. -/
def SameRom (s t : State) : Prop := ∀ (slot : ReadSlot) (a : Word), a.toNat ≤ 0x7FFF → t.read8 slot a = s.read8 slot a

/-- Stores leave ROM as it was, whatever their addresses. -/
theorem StoresAt.sameRom {s t : State} {addrs : List Word} (h : StoresAt s addrs t) : SameRom s t := by
  refine h.preserves (P := SameRom s) ?_ ?_ fun _ _ _ => rfl
  · intro u v hm _ hu slot a ha
    rw [State.read8_rom v slot (region_rom ha), hm, ← State.read8_rom u slot (region_rom ha), hu slot a ha]
  · intro u b v hu slot a ha
    rw [State.read8_rom_write8 u b v slot (region_rom ha), hu slot a ha]

end Sys2Proof.Machine

/-! SUPPORT. No event writes a parameter, and under `ILLEGAL_POLICY = nop` none stops the machine (R4, R20, R225, R240, R245). -/

namespace Sys2Proof.Laws

open Sys2Proof.Machine

theorem step_next_of_nop {s : State} (hnop : s.params.illegalPolicy = .nop) : ∃ t, step s = .next t := by
  cases hh : s.halted with
  | true => exact ⟨s, step_of_halted hh⟩
  | false =>
    rw [step_of_running hh, exec_eq_execVariant]
    obtain ht | ⟨_, _, hfault, _⟩ := execVariant_total s.fetch.variant s.tick
    · exact ht
    · simp [hnop] at hfault

theorem act_next_of_nop (i : HostInput) {s : State} (hnop : s.params.illegalPolicy = .nop) : ∃ t, act i s = .next t := by
  cases i with
  | step => exact step_next_of_nop hnop
  | wake | observePort => exact ⟨_, rfl⟩

theorem act_params {i : HostInput} {s t : State} (h : act i s = .next t) : t.params = s.params := by
  cases i with
  | step =>
    obtain ⟨_, hstores⟩ := step_storesAt h
    exact hstores.params
  | wake | observePort => cases h; rfl

end Sys2Proof.Laws

/-! The statements about runs under the default policy (R5, R20) and about what no step writes (R4, R33). -/

namespace Sys2Proof.Proofs

open Sys2Proof.Machine Sys2Proof.Laws

/-- Settles O9, by induction on the sequence of events: each has a next state, and the policy is still `nop` there. -/
theorem runsNeverStopUnderTheDefaultPolicy : Obligations.RunsNeverStopUnderTheDefaultPolicy := by
  intro s hnop inputs
  induction inputs generalizing s with
  | nil => exact ⟨s, acts_nil s⟩
  | cons i rest ih =>
    obtain ⟨t, ht⟩ := act_next_of_nop i hnop
    obtain ⟨u, hu⟩ := ih t (by rw [act_params ht, hnop])
    exact ⟨u, acts_cons_next.2 ⟨t, ht, hu⟩⟩

/-- Settles O10: a step only stores bytes, and a store reaches no ROM cell. -/
theorem romAndParametersAreNeverWritten : Obligations.RomAndParametersAreNeverWritten := by
  intro s t h
  obtain ⟨_, hstores⟩ := step_storesAt h
  exact ⟨hstores.params, hstores.sameRom⟩

end Sys2Proof.Proofs

/-! SUPPORT. Flag writes against the flag table (R11, R18): a flag write meets a row cell by cell, and what it leaves in F. -/

namespace Sys2Proof

/-- The column of a flag in a flag write. -/
def FlagWrite.value (w : FlagWrite) : Flag → Option Bool
  | .Z => w.z
  | .N => w.n
  | .H => w.h
  | .C => w.c

/-- What a cell of the flag table R18 lets an instruction write: `-` nothing, `0` and `1` that value, `*` some value. -/
def FlagCell.Admits : FlagCell → Option Bool → Prop
  | .unaffected, o => o = none
  | .zero, o => o = some false
  | .one, o => o = some true
  | .result, o => o.isSome = true

theorem FlagCell.Admits.isSome {cell : FlagCell} {o : Option Bool} (h : cell.Admits o) (hcell : cell ≠ .unaffected) : o.isSome = true := by
  cases cell with
  | unaffected => exact absurd rfl hcell
  | zero | one => cases h; rfl
  | result => exact h

/-- A flag write meets a row of the flag table R18. -/
def FlagWrite.Fits (w : FlagWrite) (row : FlagRow) : Prop := ∀ fl : Flag, (row.cell fl).Admits (w.value fl)

theorem FlagWrite.Fits.of_cells {w : FlagWrite} {row : FlagRow} (z : row.z.Admits w.z) (n : row.n.Admits w.n) (h : row.h.Admits w.h)
    (c : row.c.Admits w.c) : w.Fits row := by
  intro fl; cases fl <;> assumption

theorem FlagWrite.bitAt_apply (w : FlagWrite) (f : Byte) (fl : Flag) :
    bitAt (w.apply f) fl.bit = (w.value fl).getD (bitAt f fl.bit) := by
  cases fl <;> simp [FlagWrite.apply, bitAt_putFlag, FlagWrite.value]

theorem FlagWrite.apply_of_value_none {w : FlagWrite} (h : ∀ fl : Flag, w.value fl = none) (f : Byte) : w.apply f = f := by
  obtain ⟨z, n, hc, c⟩ := w
  obtain ⟨rfl, rfl, rfl, rfl⟩ : z = none ∧ n = none ∧ hc = none ∧ c = none := ⟨h .Z, h .N, h .H, h .C⟩
  rfl

theorem Machine.State.flag_of_apply {s t : State} {w : FlagWrite} (h : t.f = w.apply s.f) (fl : Flag) :
    t.flag fl = (w.value fl).getD (s.flag fl) := by
  rw [State.flag, h, FlagWrite.bitAt_apply, State.flag]

end Sys2Proof

/-! SUPPORT. Register pairs by the tables of R65: which of them a row can name, and what a write to a pair leaves alone (R12, R15). -/

namespace Sys2Proof

/-- Table `rp` has no AF and no PC (R65). -/
theorem Reg16.ne_of_inTableRp {p : Reg16} (h : p.inTableRp = true) : p ≠ .AF ∧ p ≠ .PC := by
  constructor <;> rintro rfl <;> exact absurd h (by decide)

namespace Machine

variable {s : State} {p : Reg16} (w : Word)

theorem State.set16_f (h : p ≠ .AF) : (s.set16 p w).f = s.f := by
  cases p with
  | AF => exact absurd rfl h
  | _ => rfl

theorem State.set16_sp (h : p ≠ .SP) : (s.set16 p w).sp = s.sp := by
  cases p with
  | SP => exact absurd rfl h
  | _ => rfl

theorem State.set16_pc (h : p ≠ .PC) : (s.set16 p w).pc = s.pc := by
  cases p with
  | PC => exact absurd rfl h
  | _ => rfl

end Machine

end Sys2Proof

/-! SUPPORT. `s.withF f` is `s` with another F: every operation that reads no flag commutes with that change, so two runs that differ in F
alone can be compared (R18). -/

namespace Sys2Proof.Machine

def State.withF (s : State) (f : Byte) : State := { s with f := f }

section
variable (s : State) (f : Byte)

@[simp] theorem State.withF_a : (s.withF f).a = s.a := rfl
@[simp] theorem State.withF_b : (s.withF f).b = s.b := rfl
@[simp] theorem State.withF_c : (s.withF f).c = s.c := rfl
@[simp] theorem State.withF_d : (s.withF f).d = s.d := rfl
@[simp] theorem State.withF_e : (s.withF f).e = s.e := rfl
@[simp] theorem State.withF_sp : (s.withF f).sp = s.sp := rfl
@[simp] theorem State.hl_withF : (s.withF f).hl = s.hl := rfl
@[simp] theorem State.nextAddr_withF (n : Nat) : (s.withF f).nextAddr n = s.nextAddr n := rfl
@[simp] theorem State.read8_withF (slot : ReadSlot) (a : Word) : (s.withF f).read8 slot a = s.read8 slot a := rfl
@[simp] theorem State.advance_withF (n : Nat) : (s.withF f).advance n = (s.advance n).withF f := rfl
@[simp] theorem State.jump_withF (a : Word) : (s.withF f).jump a = (s.jump a).withF f := rfl
@[simp] theorem State.bumpHL_withF (d : Word) : (s.withF f).bumpHL d = (s.bumpHL d).withF f := rfl
@[simp] theorem State.writeFlags_withF (w : FlagWrite) : (s.withF f).writeFlags w = (s.writeFlags w).withF (w.apply f) := rfl
@[simp] theorem State.writable_withF (a : Word) : (s.withF f).writable a = s.writable a := rfl
@[simp] theorem State.highAddr?_withF (a : Word) : (s.withF f).highAddr? a = s.highAddr? a := rfl

@[simp] theorem State.write8_withF (a : Word) (v : Byte) : (s.withF f).write8 a v = (s.write8 a v).withF f := by
  rw [State.write8, State.write8, State.writable_withF]
  split <;> rfl

@[simp] theorem State.write16_withF (a w : Word) : (s.withF f).write16 a w = (s.write16 a w).withF f := by
  rw [State.write16, State.write16, State.highAddr?_withF]
  cases s.highAddr? a <;> simp

@[simp] theorem State.push16_withF (w : Word) : (s.withF f).push16 w = (s.push16 w).withF f :=
  State.write16_withF { s with sp := s.sp - 2 } f (s.sp - 2) w

end

/-! A named register, location or pair is read and written alike when it does not name F (R64, R65). -/

section
variable {s : State} (f : Byte) {r : Reg8} {x : Loc8} {p : Reg16} (v : Byte) (w : Word)

theorem State.get8_withF (h : r.inTableR = true) : (s.withF f).get8 r = s.get8 r := by
  cases r with
  | F => cases h
  | _ => rfl

theorem State.set8_withF (h : r.inTableR = true) : (s.withF f).set8 r v = (s.set8 r v).withF f := by
  cases r with
  | F => cases h
  | _ => rfl

theorem State.readLoc_withF (h : x.inTableR = true) : (s.withF f).readLoc x = s.readLoc x := by
  cases x with
  | reg r => exact State.get8_withF f h
  | HLm => rfl

theorem State.writeLoc_withF (h : x.inTableR = true) : (s.withF f).writeLoc x v = (s.writeLoc x v).withF f := by
  cases x with
  | reg r => exact State.set8_withF f v h
  | HLm => exact State.write8_withF s f s.hl v

theorem State.get16_withF (h : p ≠ .AF) : (s.withF f).get16 p = s.get16 p := by
  cases p with
  | AF => exact absurd rfl h
  | _ => rfl

theorem State.set16_withF (h : p ≠ .AF) : (s.withF f).set16 p w = (s.set16 p w).withF f := by
  cases p with
  | AF => exact absurd rfl h
  | _ => rfl

end

end Sys2Proof.Machine

/-! SUPPORT. `SameRegs rs s t`: no byte register but F and those of `rs` differs between `s` and `t`; one rule per state operation (R10,
R12, R15). -/

namespace Sys2Proof.Machine

def SameRegs (rs : List Reg8) (s t : State) : Prop := ∀ r : Reg8, r ≠ .F → r ∉ rs → t.get8 r = s.get8 r

namespace SameRegs

variable {rs qs : List Reg8} {s t u : State}

theorem refl (rs : List Reg8) (s : State) : SameRegs rs s s := fun _ _ _ => rfl

theorem of_eq (rs : List Reg8) (ha : t.a = s.a) (hb : t.b = s.b) (hc : t.c = s.c) (hd : t.d = s.d) (he : t.e = s.e) (hh : t.h = s.h)
    (hl : t.l = s.l) : SameRegs rs s t := by
  intro r hF _
  cases r with
  | F => exact absurd rfl hF
  | A | B | C | D | E | H | L => assumption

theorem trans (h : SameRegs rs s t) (h' : SameRegs qs t u) : SameRegs (rs ++ qs) s u := by
  intro r hF hr
  obtain ⟨hrs, hqs⟩ := not_or.1 (mt List.mem_append.2 hr)
  rw [h' r hF hqs, h r hF hrs]

theorem advance (h : SameRegs rs s u) (n : Nat) : SameRegs rs s (u.advance n) := fun r hF hr => by
  rw [← h r hF hr]; cases r <;> rfl

theorem writeFlags (h : SameRegs rs s u) (w : FlagWrite) : SameRegs rs s (u.writeFlags w) := fun r hF hr => by
  rw [← h r hF hr]
  cases r with
  | F => exact absurd rfl hF
  | _ => rfl

theorem set8 (s : State) (q : Reg8) (v : Byte) : SameRegs [q] s (s.set8 q v) := by
  intro r _ hr
  have hne : r ≠ q := by simpa using hr
  cases q <;> cases r <;> simp at hne ⊢

theorem set16 (s : State) (p : Reg16) (w : Word) : SameRegs p.halves s (s.set16 p w) := by
  cases p with
  | AF => exact (set8 s .A _).trans (set8 _ .F _)
  | BC => exact (set8 s .B _).trans (set8 _ .C _)
  | DE => exact (set8 s .D _).trans (set8 _ .E _)
  | HL => exact (set8 s .H _).trans (set8 _ .L _)
  | SP | PC => exact refl _ s

theorem write8 (s : State) (a : Word) (v : Byte) : SameRegs [] s (s.write8 a v) :=
  of_eq _ (by simp) (by simp) (by simp) (by simp) (by simp) (by simp) (by simp)

theorem write16 (s : State) (a w : Word) : SameRegs [] s (s.write16 a w) :=
  of_eq _ (by simp) (by simp) (by simp) (by simp) (by simp) (by simp) (by simp)

theorem push16 (s : State) (w : Word) : SameRegs [] s (s.push16 w) := write16 { s with sp := s.sp - 2 } _ w

theorem writeLoc (s : State) (x : Loc8) (v : Byte) : SameRegs x.regs s (s.writeLoc x v) := by
  cases x with
  | reg r => exact set8 s r v
  | HLm => exact write8 s s.hl v

theorem bumpHL (s : State) (d : Word) : SameRegs [.H, .L] s (s.bumpHL d) := set16 s .HL (s.hl + d)

theorem aluApply (s : State) (op : AluOp) (v : Byte) : SameRegs (if op = .CP then [] else [.A]) s (aluApply op v s) := by
  cases op with
  | CP => exact (refl _ s).writeFlags _
  | _ => exact (set8 s .A _).writeFlags _

end SameRegs

end Sys2Proof.Machine

/-! SUPPORT. What an instruction can do to each field of the state but memory, one inversion lemma per field: the byte registers, F, SP, PC,
and the fields of the two ports (R13, R16, R18, R19, R244). `execVariant_storesAt` says it of memory and the parameters. -/

namespace Sys2Proof.Laws

open Sys2Proof.Machine Sys2Proof.Claims

/-- Every row admits its operands. -/
theorem variant_wellFormed (i : Instr) : i.variant.wellFormed = true := by
  cases i <;> rfl

/-! The two meanings that depend on a parameter (R124, R225). -/

theorem ldhl_of_hardware {s : State} (e : Byte) (hp : s.params.ldhlFlags = .hardware) :
    exec_LDHL_SP_e8 e s = seq 2 ((s.set16 .HL (addOffset s.sp e).result).writeFlags (offsetFlags (addOffset s.sp e))) := by
  simp [exec_LDHL_SP_e8, hp]

theorem ldhl_of_unaffected {s : State} (e : Byte) (hp : s.params.ldhlFlags = .unaffected) :
    exec_LDHL_SP_e8 e s = seq 2 (s.set16 .HL (addOffset s.sp e).result) := by
  simp [exec_LDHL_SP_e8, hp]

theorem ldhl_next {e : Byte} {s t : State} (h : exec_LDHL_SP_e8 e s = .next t) :
    ∃ w, t = ((s.set16 .HL (addOffset s.sp e).result).writeFlags w).advance 2 := by
  cases hp : s.params.ldhlFlags with
  | hardware => rw [ldhl_of_hardware e hp] at h; cases h; exact ⟨_, rfl⟩
  | unaffected => rw [ldhl_of_unaffected e hp] at h; cases h; exact ⟨{}, rfl⟩

theorem illegalOp_of_nop {s : State} (op : Byte) (hp : s.params.illegalPolicy = .nop) : illegalOp op s = seq 1 s := by
  simp [illegalOp, hp]

theorem illegalOp_next {op : Byte} {s t : State} (h : illegalOp op s = .next t) : s.params.illegalPolicy = .nop ∧ t = s.advance 1 := by
  cases hp : s.params.illegalPolicy with
  | nop => rw [illegalOp_of_nop op hp] at h; cases h; exact ⟨rfl, rfl⟩
  | fault => simp only [illegalOp, hp] at h; cases h

/-! The conditional forms (R200). -/

theorem branches_of_cond {v : Variant} {cc : Cond} (s : State) (hcond : v.cond? = some cc) : s.branches v = s.holds cc := by
  cases v with
  | JP_cc_a16 | JR_cc_e8 | CALL_cc_a16 | RET_cc => cases hcond; rfl
  | _ => cases hcond

/-- Not taken, a conditional form moves PC past itself and does nothing else. -/
theorem execVariant_not_taken {v : Variant} {cc : Cond} {s : State} (hcond : v.cond? = some cc) (hcc : s.holds cc = false) :
    execVariant v s = seq (v.size s.params) s := by
  cases v with
  | JP_cc_a16 | JR_cc_e8 | CALL_cc_a16 | RET_cc => cases hcond; exact if_neg (by simp [hcc])
  | _ => cases hcond

/-! Registers, SP, PC, ports. -/

theorem execVariant_sameRegs {v : Variant} {s t : State} (h : execVariant v s = .next t) : SameRegs v.regsWritten s t := by
  cases v with
  | LD_r_r | LD_r_d8 | LD_r_HLm | LD_A_BC | LD_A_DE | LD_A_a16 | LDH_A_C | LDH_A_a8 => cases h; exact (SameRegs.set8 s _ _).advance _
  | LDI_A_HL | LDD_A_HL => cases h; exact ((SameRegs.set8 s .A _).trans (.bumpHL _ _)).advance _
  | LDI_HL_A | LDD_HL_A => cases h; exact ((SameRegs.write8 s _ _).trans (.bumpHL _ _)).advance _
  | LD_HLm_r | LD_HLm_d8 | LD_BC_A | LD_DE_A | LD_a16_A | LDH_C_A | LDH_a8_A => cases h; exact (SameRegs.write8 s _ _).advance _
  | LD_rr_d16 | INC_rr | DEC_rr => cases h; exact (SameRegs.set16 s _ _).advance _
  | POP_rr => cases h; exact (SameRegs.set16 s.popped _ _).advance _
  | POP_AF => cases h; exact (SameRegs.set16 s.popped .AF _).advance _
  | LDHL_SP_e8 e => obtain ⟨w, rfl⟩ := ldhl_next h; exact ((SameRegs.set16 s .HL _).writeFlags w).advance _
  | ADD_HL_rr => cases h; exact ((SameRegs.set16 s .HL _).writeFlags _).advance _
  | ALU_s | ALU_d8 => cases h; exact (SameRegs.aluApply s _ _).advance _
  | DAA | CPL | RLCA | RLA | RRCA | RRA => cases h; exact ((SameRegs.set8 s .A _).writeFlags _).advance _
  | INC_s | DEC_s | ROT_s => cases h; exact ((SameRegs.writeLoc s _ _).writeFlags _).advance _
  | RES_b_s | SET_b_s => cases h; exact (SameRegs.writeLoc s _ _).advance _
  | SCF | CCF | BIT_b_s => cases h; exact ((SameRegs.refl _ s).writeFlags _).advance _
  | ADD_SP_e8 => cases h; exact ((SameRegs.refl [] { s with sp := _ }).writeFlags _).advance _
  | PUSH_rr => cases h; exact (SameRegs.push16 s _).advance _
  | LD_a16_SP => cases h; exact (SameRegs.write16 s _ _).advance _
  | CALL_a16 | RST => cases h; exact SameRegs.push16 s _
  | CALL_cc_a16 =>
    obtain ⟨-, h⟩ | ⟨-, h⟩ := ite_eq_iff.1 h <;> cases h
    · exact SameRegs.push16 s _
    · exact .refl _ s
  | JP_cc_a16 | JR_cc_e8 | RET_cc => obtain ⟨-, h⟩ | ⟨-, h⟩ := ite_eq_iff.1 h <;> cases h <;> exact .refl _ s
  | ILLEGAL => obtain ⟨-, rfl⟩ := illegalOp_next h; exact .refl _ s
  | _ => cases h; exact .refl _ s

theorem execVariant_sp {v : Variant} {s t : State} (h : execVariant v s = .next t) (hsp : v.mayWriteSP = false) : t.sp = s.sp := by
  cases v with
  | LD_SP_HL | ADD_SP_e8 | PUSH_rr | POP_rr | POP_AF | CALL_a16 | CALL_cc_a16 | RST | RET | RET_cc | RETI => cases hsp
  | LD_rr_d16 | INC_rr | DEC_rr => cases h; exact State.set16_sp _ (of_decide_eq_false hsp)
  | LDHL_SP_e8 => obtain ⟨w, rfl⟩ := ldhl_next h; rfl
  | JP_cc_a16 | JR_cc_e8 => obtain ⟨-, h⟩ | ⟨-, h⟩ := ite_eq_iff.1 h <;> cases h <;> rfl
  | ILLEGAL => obtain ⟨-, rfl⟩ := illegalOp_next h; rfl
  | LDD_HL_A => cases h; rw [State.advance_sp, State.bumpHL_sp, State.write8_sp]
  | _ => cases h; simp

theorem execVariant_pc {v : Variant} {s t : State} (hv : v.wellFormed = true) (h : execVariant v s = .next t) :
    t.pc = if s.branches v = true then s.target v else s.pc + BitVec.ofNat 16 (v.size s.params) := by
  cases v with
  | JP_cc_a16 cc | JR_cc_e8 cc | CALL_cc_a16 cc | RET_cc cc =>
    rw [branches_of_cond s rfl]
    obtain ⟨hcc, h⟩ | ⟨hcc, h⟩ := ite_eq_iff.1 h <;> cases h
    · exact (if_pos hcc).symm
    · exact (if_neg hcc).symm
  | JP_a16 | JP_HL | JR_e8 | CALL_a16 | RET | RETI | RST => cases h; rfl
  | LD_rr_d16 | INC_rr | DEC_rr => cases h; exact congrArg (· + _) (State.set16_pc _ (Reg16.ne_of_inTableRp hv).2)
  | POP_rr rr =>
    cases h
    have hPC : rr ≠ .PC := by rintro rfl; cases hv
    exact congrArg (· + _) (State.set16_pc (s := s.popped) _ hPC)
  | LDHL_SP_e8 => obtain ⟨w, rfl⟩ := ldhl_next h; rfl
  | ILLEGAL => obtain ⟨-, rfl⟩ := illegalOp_next h; rfl
  | LDD_HL_A => cases h; rw [State.advance_pc, State.bumpHL_pc, State.write8_pc]; rfl
  | _ => cases h; simp [State.branches, Variant.mayBranch, Variant.size]

/-- The fields of the ports and the draw counter: HALT sets `halted`, a port command sets the mirror and joins the stream (R16, R243). -/
theorem execVariant_ports {v : Variant} {s t : State} (h : execVariant v s = .next t) :
    t.halted = (s.halted || decide (v = .HALT)) ∧ t.ime = PortCommand.mirror s.ime v.portCommand ∧
      t.commands = s.commands ++ v.portCommand.toList ∧ t.draws = s.draws := by
  cases v with
  | JP_cc_a16 | JR_cc_e8 | CALL_cc_a16 | RET_cc =>
    obtain ⟨-, h⟩ | ⟨-, h⟩ := ite_eq_iff.1 h <;> cases h <;> simp [returnTo, Variant.portCommand]
  | LDHL_SP_e8 => obtain ⟨w, rfl⟩ := ldhl_next h; simp [Variant.portCommand]
  | ILLEGAL => obtain ⟨-, rfl⟩ := illegalOp_next h; simp [Variant.portCommand]
  | LDD_HL_A =>
    -- with its rewriting steps left implicit, the kernel would compare whole states here, which is slow
    cases h
    simp -implicitDefEqProofs [Variant.portCommand]
  | _ => cases h; simp [returnTo, Variant.portCommand]

end Sys2Proof.Laws

/-! SUPPORT. F after an instruction, said once for what R18's table says of it and for who reads it. -/

namespace Sys2Proof.Laws

open Sys2Proof.Machine Sys2Proof.Claims

/-- Between `s` and `t` the instruction applies to F one flag write that meets its row of R18; and if R18 does not list it as reading
flags, it does the same from every other F. -/
def FlagsByTable (v : Variant) (s t : State) : Prop :=
  ∃ w : FlagWrite, w.Fits (v.flagRow s.params) ∧ t.f = w.apply s.f ∧
    (readsFlags v = false → ∀ f : Byte, execVariant v (s.withF f) = .next (t.withF (w.apply f)))

namespace FlagsByTable

variable {v : Variant} {s t u : State}

/-- For a meaning that ends in a flag write: the four cells, and the state `u` before it. -/
theorem of_writeFlags {w : FlagWrite} {len : Nat} (cz : (v.flagRow s.params).z.Admits w.z) (cn : (v.flagRow s.params).n.Admits w.n)
    (ch : (v.flagRow s.params).h.Admits w.h) (cc : (v.flagRow s.params).c.Admits w.c) (hf : u.f = s.f)
    (hread : readsFlags v = false → ∀ f : Byte, execVariant v (s.withF f) = seq len ((u.withF f).writeFlags w)) :
    FlagsByTable v s ((u.writeFlags w).advance len) :=
  ⟨w, .of_cells cz cn ch cc, congrArg w.apply hf, hread⟩

/-- For a meaning that writes no flag. -/
theorem of_none (hrow : v.flagRow s.params = .none) (hf : t.f = s.f)
    (hread : readsFlags v = false → ∀ f : Byte, execVariant v (s.withF f) = .next (t.withF f)) : FlagsByTable v s t :=
  ⟨{}, hrow ▸ .of_cells rfl rfl rfl rfl, hf, hread⟩

/-- The same for a meaning that does not branch. -/
theorem of_seq {len : Nat} (hrow : v.flagRow s.params = .none) (hf : u.f = s.f)
    (hread : readsFlags v = false → ∀ f : Byte, execVariant v (s.withF f) = seq len (u.withF f)) : FlagsByTable v s (u.advance len) :=
  of_none hrow hf hread

end FlagsByTable

theorem execVariant_flagsByTable {v : Variant} {s t : State} (hv : v.wellFormed = true) (hAF : v ≠ .POP_AF)
    (h : execVariant v s = .next t) : FlagsByTable v s t := by
  cases v with
  | POP_AF => exact absurd rfl hAF
  | ALU_s op x =>
    cases h
    cases op with
    | ADC | SBC => exact .of_writeFlags rfl rfl rfl rfl rfl nofun
    | _ =>
      refine .of_writeFlags rfl rfl rfl rfl rfl fun _ f => ?_
      simp only [execVariant, aluLoc, State.readLoc_withF f hv]
      rfl
  | ALU_d8 op d =>
    cases h
    cases op with
    | ADC | SBC => exact .of_writeFlags rfl rfl rfl rfl rfl nofun
    | _ => exact .of_writeFlags rfl rfl rfl rfl rfl fun _ _ => rfl
  | INC_s x | DEC_s x =>
    cases h
    exact .of_writeFlags rfl rfl rfl rfl (State.writeLoc_f _ _ hv) fun _ f =>
      congrArg (seq 1) (by simp [State.readLoc_withF f hv, State.writeLoc_withF f _ hv])
  | ROT_s op x =>
    cases h
    cases op with
    | RL | RR => exact .of_writeFlags rfl rfl rfl rfl (State.writeLoc_f _ _ hv) nofun
    | _ =>
      exact .of_writeFlags rfl rfl rfl rfl (State.writeLoc_f _ _ hv) fun _ f =>
        congrArg (seq 2) (by simp [rotApply, State.readLoc_withF f hv, State.writeLoc_withF f _ hv])
  | BIT_b_s b x =>
    cases h
    exact .of_writeFlags rfl rfl rfl rfl rfl fun _ f => congrArg (seq 2) (by simp [State.readLoc_withF f hv])
  | ADD_HL_rr rr =>
    cases h
    refine .of_writeFlags rfl rfl rfl rfl rfl fun _ f => ?_
    simp only [execVariant, addHL, State.get16_withF f (Reg16.ne_of_inTableRp hv).1]
    rfl
  | CPL | SCF | RLCA | RRCA | ADD_SP_e8 => cases h; exact .of_writeFlags rfl rfl rfl rfl rfl fun _ _ => rfl
  | DAA | CCF | RLA | RRA => cases h; exact .of_writeFlags rfl rfl rfl rfl rfl nofun
  | LDHL_SP_e8 e =>
    cases hp : s.params.ldhlFlags with
    | hardware =>
      rw [execVariant, ldhl_of_hardware e hp] at h
      cases h
      have hrow : Variant.flagRow s.params (.LDHL_SP_e8 e) = ⟨.zero, .zero, .result, .result⟩ := if_pos hp
      refine .of_writeFlags ?_ ?_ ?_ ?_ rfl fun _ f => ldhl_of_hardware (s := s.withF f) e hp <;> rw [hrow] <;> rfl
    | unaffected =>
      rw [execVariant, ldhl_of_unaffected e hp] at h
      cases h
      exact .of_none (if_neg (by simp [hp])) rfl fun _ f => ldhl_of_unaffected (s := s.withF f) e hp
  | LD_r_r rd rs =>
    cases h
    obtain ⟨hd, hs⟩ : rd.inTableR = true ∧ rs.inTableR = true := Bool.and_eq_true_iff.1 hv
    exact .of_seq rfl (State.writeLoc_f (x := .reg rd) s _ hd) fun _ f =>
      congrArg (seq 1) (by rw [State.get8_withF f hs, State.set8_withF f _ hd])
  | LD_r_d8 r | LD_r_HLm r =>
    cases h
    exact .of_seq rfl (State.writeLoc_f (x := .reg r) s _ hv) fun _ f => congrArg (seq _) (State.set8_withF f _ hv)
  | LD_HLm_r r => cases h; exact .of_seq rfl (by simp) fun _ f => congrArg (seq 1) (by simp [State.get8_withF f hv])
  | LD_rr_d16 rr | INC_rr rr | DEC_rr rr =>
    cases h
    have hp : rr ≠ .AF := (Reg16.ne_of_inTableRp hv).1
    exact .of_seq rfl (State.set16_f _ hp) fun _ f =>
      congrArg (seq _) (by simp [State.get16_withF f hp, State.set16_withF f _ hp])
  | POP_rr rr =>
    cases h
    have hp : rr ≠ .AF := by rintro rfl; cases hv
    exact .of_seq rfl (State.set16_f _ hp) fun _ f => congrArg (seq 1) (State.set16_withF (s := s.popped) f _ hp)
  | PUSH_rr rr =>
    cases h
    exact .of_seq rfl (by simp) fun hr f => congrArg (seq 1) (by simp [State.get16_withF f (of_decide_eq_false hr)])
  | RES_b_s b x | SET_b_s b x =>
    cases h
    exact .of_seq rfl (State.writeLoc_f _ _ hv) fun _ f =>
      congrArg (seq 2) (by rw [State.readLoc_withF f hv, State.writeLoc_withF f _ hv])
  | JP_cc_a16 | JR_cc_e8 | CALL_cc_a16 | RET_cc =>
    obtain ⟨-, h⟩ | ⟨-, h⟩ := ite_eq_iff.1 h <;> cases h <;> exact .of_none rfl (by simp [returnTo]) nofun
  | ILLEGAL op =>
    obtain ⟨hp, rfl⟩ := illegalOp_next h
    exact .of_seq rfl rfl fun _ f => illegalOp_of_nop (s := s.withF f) op hp
  | LD_HLm_d8 | LD_BC_A | LD_DE_A | LD_a16_A | LDH_C_A | LDH_a8_A | LDI_HL_A | LD_a16_SP | CALL_a16 | RST =>
    cases h
    exact .of_none rfl (by simp) fun _ f => congrArg Host.Outcome.next (by simp)
  | LDD_A_HL => cases h; exact .of_seq rfl rfl fun _ f => congrArg (seq 1) (State.bumpHL_withF (s.set8 .A _) f (-1))
  | LDD_HL_A =>
    cases h
    exact .of_seq rfl (by rw [State.bumpHL_f, State.write8_f]) fun _ f =>
      congrArg (seq 1) (by rw [State.hl_withF, State.withF_a, State.write8_withF, State.bumpHL_withF])
  | _ => cases h; exact .of_none rfl rfl fun _ _ => rfl

end Sys2Proof.Laws

/-! SUPPORT. A step keeps the invariant, part by part (R11, R31, R34, R243); every event does, so every reachable state has it. -/

namespace Sys2Proof.Machine

theorem byte_clean_of_mask (v : Byte) : v &&& 0xF0 &&& 0x0F = 0x00 := by
  rw [BitVec.and_assoc]
  exact BitVec.and_zero

/-- The part of the invariant about memory: the canonical form, and no cell in an absent cartridge RAM. -/
def State.MemoryInv (s : State) : Prop := s.mem.wf = true ∧ (s.params.cartRam = .absent → s.mem.noCartRam)

/-- Stores keep it, whatever their addresses. -/
theorem StoresAt.memoryInv {s t : State} {addrs : List Word} (h : StoresAt s addrs t) (hs : s.MemoryInv) : t.MemoryInv := by
  refine h.preserves (P := State.MemoryInv) ?_ ?_ hs
  · intro u v hm hp hu
    rwa [State.MemoryInv, hm, hp]
  · rintro u a b ⟨hwf, hcram⟩
    refine ⟨State.wf_write8 a b hwf, fun hp => ?_⟩
    rw [State.write8_params] at hp
    exact State.absent_write8 a b hp (hcram hp)

/-- The mirror is as the last command left it after one more command, or none (R243). -/
theorem PortCommand.mirror_follows {old : Bool} {ks : List PortCommand} (h : ∀ c ∈ ks.getLast?, old = c.enables) (k : Option PortCommand) :
    ∀ c ∈ (ks ++ k.toList).getLast?, PortCommand.mirror old k = c.enables := by
  cases k with
  | none => simpa using h
  | some k => simp

end Sys2Proof.Machine

namespace Sys2Proof.Laws

open Sys2Proof.Machine

/-- A clean low nibble of F stays clean: POP AF masks it, every other instruction leaves it (R11, R127). -/
theorem execVariant_lowNibble {v : Variant} {s t : State} (hv : v.wellFormed = true) (h : execVariant v s = .next t)
    (hs : s.f &&& 0x0F = 0x00) : t.f &&& 0x0F = 0x00 := by
  by_cases hAF : v = .POP_AF
  · subst hAF; cases h; exact byte_clean_of_mask _
  · obtain ⟨w, -, hf, -⟩ := execVariant_flagsByTable hv hAF h
    rw [hf, FlagWrite.apply_low, hs]

theorem execVariant_inv {v : Variant} {s t : State} (hv : v.wellFormed = true) (h : execVariant v s = .next t) (hs : s.Inv) : t.Inv := by
  obtain ⟨hf, hwf, hcram, hport⟩ := hs
  obtain ⟨hwf', hcram'⟩ := (execVariant_storesAt h).memoryInv ⟨hwf, hcram⟩
  obtain ⟨-, hime, hcommands, -⟩ := execVariant_ports h
  refine ⟨execVariant_lowNibble hv h hf, hwf', hcram', ?_⟩
  rw [hime, hcommands]
  exact PortCommand.mirror_follows hport _

theorem tick_inv {s : State} (hs : s.Inv) : s.tick.Inv := by
  simpa [State.Inv] using hs

theorem step_inv {s t : State} (h : step s = .next t) (hs : s.Inv) : t.Inv := by
  obtain ⟨-, rfl⟩ | ⟨-, h⟩ := step_cases h
  · exact hs
  · exact execVariant_inv (variant_wellFormed _) h (tick_inv hs)

theorem act_inv {i : HostInput} {s t : State} (h : act i s = .next t) (hs : s.Inv) : t.Inv := by
  cases i with
  | step => exact step_inv h hs
  | wake | observePort => cases h; exact hs

theorem powerOn_inv {p : Params} {mem : Memory} {r : Launch} (h : LegalPowerOn p mem r) : (State.powerOn p mem r).Inv := by
  obtain ⟨hwf, hf, hcram⟩ := h
  exact ⟨of_decide_eq_true hf, hwf, hcram, nofun⟩

theorem reachable_inv {s : State} (h : Reachable s) : s.Inv := by
  induction h with
  | powerOn p mem r hlegal => exact powerOn_inv hlegal
  | act i s t _ ht ih => exact act_inv ht ih

end Sys2Proof.Laws

/-! SUPPORT. What a step executes: the eleven bytes of R72 and no others decode to ILLEGAL, `decodeBytes` of three bytes is `decode`, HALT is
the one row of its variant, and the tick changes the draw counter only. -/

namespace Sys2Proof

/-- The byte an ILLEGAL row is of. -/
def Variant.illegalByte? : Variant → Option Byte
  | .ILLEGAL op => some op
  | _ => none

/-- No row of the CB table is ILLEGAL (R71). -/
theorem decodeCB_legal : ∀ b1 : Byte, (decodeCB b1).variant.illegalByte? = none := by decide

/-- The primary table, byte by byte: 0xCB leads to the CB table, every other entry is one row. -/
theorem decode_illegalByte? (b0 b1 b2 : Byte) :
    (decode b0 b1 b2).variant.illegalByte? = if b0 ∈ illegalBytes then some b0 else none := by
  obtain ⟨n, hn, rfl⟩ : ∃ n < 256, b0 = BitVec.ofNat 8 n := ⟨b0.toNat, b0.isLt, by simp⟩
  obtain hlt | rfl | hgt := lt_trichotomy n 0xCB
  · interval_cases n <;> rfl
  · exact decodeCB_legal b1
  · interval_cases n <;> rfl

theorem decode_eq_illegal {b0 b1 b2 op : Byte} (h : (decode b0 b1 b2).variant = .ILLEGAL op) : op = b0 ∧ b0 ∈ illegalBytes := by
  have hop := decode_illegalByte? b0 b1 b2
  rw [h] at hop
  split at hop
  · next hmem => cases hop; exact ⟨rfl, hmem⟩
  · cases hop

theorem decodeBytes_three {b0 b1 b2 : Byte} {i : Instr} {rest : List Byte} (h : decodeBytes [b0, b1, b2] = .ok (i, rest)) :
    i = decode b0 b1 b2 := by
  simp only [decodeBytes] at h
  split at h <;> cases h
  rfl

theorem Machine.State.tick_eq (s : State) : s.tick = { s with draws := s.tick.draws } := by
  unfold State.tick; split <;> rfl

theorem Laws.variant_eq_halt_iff (i : Instr) : i.variant = .HALT ↔ i = .HALT := by
  refine ⟨fun h => ?_, fun h => h ▸ rfl⟩
  cases i with
  | HALT => rfl
  | _ => cases h

end Sys2Proof

/-! SUPPORT. Reset and power-on: memory with nothing listed reads 0x00, and a ROM address is its own cell (R21, R31). -/

namespace Sys2Proof.Machine

theorem cellOf_rom {a : Word} (h : a.toNat ≤ 0x7FFF) : cellOf a = a.toNat := by
  rw [cellOf, unecho, if_neg (by omega)]

theorem State.read8_reset (slot : ReadSlot) (a : Word) : State.reset.read8 slot a = 0x00 := by
  rw [State.read8_present rfl]
  split <;> rfl

end Sys2Proof.Machine

/-! SUPPORT. The mask of AF is the mask of its low byte (R11, R12). -/

namespace Sys2Proof

theorem cat_and_cat (h l h' l' : Byte) : cat h l &&& cat h' l' = cat (h &&& h') (l &&& l') := by
  unfold cat; exact BitVec.and_append

theorem cat_hi8_lo8_masked (w : Word) : cat (hi8 w) (lo8 w &&& 0xF0) = w &&& 0xFFF0 := by
  have hones : hi8 w &&& 0xFF = hi8 w := BitVec.and_allOnes
  calc cat (hi8 w) (lo8 w &&& 0xF0) = cat (hi8 w &&& 0xFF) (lo8 w &&& 0xF0) := by rw [hones]
    _ = cat (hi8 w) (lo8 w) &&& cat 0xFF 0xF0 := (cat_and_cat ..).symm
    _ = w &&& 0xFFF0 := by rw [cat_hi8_lo8]; rfl

end Sys2Proof

/-! The statements about the state, its invariant and the step (spec/10_state.md). -/

namespace Sys2Proof.Proofs

open Sys2Proof.Machine Sys2Proof.Laws Sys2Proof.Claims

/-- Settles O11: the parts of the invariant are kept by every instruction, and a step is one instruction or nothing. -/
theorem stepKeepsTheInvariant : Obligations.StepKeepsTheInvariant := fun _ _ hs h => step_inv h hs

/-- Settles O7: PC after an instruction is the target or the following address, by the split on variants of `execVariant_pc`. -/
theorem stepFollowsTheProtocol : Obligations.StepFollowsTheProtocol := by
  refine fun s => ⟨step_of_halted, step_of_running, fun i t h => ?_⟩
  rw [exec_eq_execVariant] at h
  exact execVariant_pc (variant_wellFormed i) h

/-- Settles O8: the one instruction without a next state is an ILLEGAL row, which only its own byte decodes to. -/
theorem stepIsTotal : Obligations.StepIsTotal := by
  refine fun s => ⟨step_of_halted, step_next_of_nop, ?_⟩
  cases hh : s.halted with
  | true => exact .inl ⟨s, step_of_halted hh⟩
  | false =>
    rw [step_of_running hh, exec_eq_execVariant]
    obtain ht | ⟨op, hop, hfault, hexec⟩ := execVariant_total s.fetch.variant s.tick
    · exact .inl ht
    · obtain ⟨rfl, hmem⟩ := decode_eq_illegal hop
      rw [State.tick_params] at hfault
      rw [State.tick_pc] at hexec
      exact .inr ⟨hfault, rfl, hmem, hexec⟩

/-- Settles O13, by induction on how the state is reached. -/
theorem reachableStatesHaveTheInvariant : Obligations.ReachableStatesHaveTheInvariant := fun _ => reachable_inv

/-- Settles O15: POP AF's row says nothing, and every other instruction applies one flag write that meets its row. -/
theorem flagTableHolds : Obligations.FlagTableHolds := by
  intro i s t h
  rw [exec_eq_execVariant] at h
  by_cases hAF : i.variant = .POP_AF
  · have hcell : ∀ fl : Flag, (i.variant.flagRow s.params).cell fl = .result := by
      rw [hAF]; intro fl; cases fl <;> rfl
    refine ⟨fun fl => by simp [hcell], fun hall => ?_, fun hne => absurd hAF hne⟩
    cases (hcell .Z).symm.trans (hall .Z)
  · obtain ⟨w, hfit, hf, -⟩ := execVariant_flagsByTable (variant_wellFormed i) hAF h
    refine ⟨fun fl => ?_, fun hall => ?_, fun _ => ?_⟩
    · have hadmits := hfit fl
      rw [State.flag_of_apply hf fl]
      refine ⟨fun hcell => ?_, fun hcell => ?_, fun hcell => ?_⟩ <;> rw [hcell, FlagCell.Admits] at hadmits <;> rw [hadmits] <;> rfl
    · have hnone : ∀ fl : Flag, w.value fl = none := fun fl => (hall fl ▸ hfit fl : FlagCell.unaffected.Admits _)
      rw [hf, FlagWrite.apply_of_value_none hnone]
    · rw [hf, FlagWrite.apply_low]

/-- Settles O16: the flag write of the instruction does not depend on F, and a flag it writes depends on nothing else. -/
theorem flagsAreReadOnlyWhereListed : Obligations.FlagsAreReadOnlyWhereListed := by
  intro i s t f hread h
  rw [exec_eq_execVariant] at h ⊢
  by_cases hAF : i.variant = .POP_AF
  · rw [hAF] at h ⊢
    cases h
    exact ⟨_, rfl, rfl, fun _ _ => rfl⟩
  · obtain ⟨w, hfit, hf, hother⟩ := execVariant_flagsByTable (variant_wellFormed i) hAF h
    refine ⟨t.withF (w.apply f), hother hread f, rfl, fun fl hcell => ?_⟩
    obtain ⟨b, hb⟩ := Option.isSome_iff_exists.1 ((hfit fl).isSome hcell)
    rw [State.flag_of_apply hf fl, State.flag_of_apply (s := s.withF f) (t := t.withF (w.apply f)) rfl fl, hb]
    rfl

/-- Settles O17: the frame of each field; a conditional form that is not taken only moves PC. -/
theorem registersOutsideTheDestinationAreKept : Obligations.RegistersOutsideTheDestinationAreKept := by
  intro i s t h
  rw [exec_eq_execVariant] at h
  obtain ⟨-, -, -, hdraws⟩ := execVariant_ports h
  refine ⟨execVariant_sameRegs h, execVariant_sp h, fun hbranch hcond => ?_, (execVariant_storesAt h).params, hdraws⟩
  obtain ⟨cc, hcc⟩ := Option.isSome_iff_exists.1 hcond
  rw [execVariant_not_taken hcc (by rw [← branches_of_cond s hcc, hbranch])] at h
  cases h
  rfl

/-- Settles O20: `halted` after an instruction, and HALT is the only row of its variant. -/
theorem haltedIsSetOnlyByHalt : Obligations.HaltedIsSetOnlyByHalt := by
  refine ⟨fun i s t h => ?_, fun s => ⟨rfl, rfl⟩⟩
  rw [exec_eq_execVariant] at h
  obtain ⟨hhalted, -⟩ := execVariant_ports h
  rw [hhalted, decide_eq_decide.2 (variant_eq_halt_iff i)]

/-- Settles O6: the front of three bytes that decode is what the fetch decodes from them. -/
theorem stepRunsTheDecodedInstruction : Obligations.StepRunsTheDecodedInstruction := by
  intro s i rest hrun hdecode
  rw [decodeBytes_three hdecode]
  exact ⟨step_of_running hrun, State.tick_present, s.tick_eq⟩

/-- Settles O12: reset is a legal power-on. -/
theorem resetHasTheInvariant : Obligations.ResetHasTheInvariant := powerOn_inv (p := Params.default) (mem := []) (r := {}) (by decide)

/-- Settles O14: the fields are the arguments of power-on, and memory with nothing listed reads 0x00. -/
theorem resetValuesAreAsStated : Obligations.ResetValuesAreAsStated := by
  refine ⟨⟨rfl, rfl⟩, ?_, ?_, rfl, rfl, rfl, rfl, rfl, fun slot a _ => State.read8_reset slot a,
    fun p mem r => ⟨fun slot a ha => ?_, ?_⟩⟩
  · intro r; cases r <;> rfl
  · intro fl; cases fl <;> rfl
  · rw [State.read8_rom _ slot (region_rom ha), cellOf_rom ha]; rfl
  · exact ⟨rfl, rfl, rfl, rfl, rfl, rfl, rfl, rfl, rfl, rfl, rfl, rfl, rfl, rfl, rfl⟩

/-- Settles O27: the views hold by definition, and a word is its two bytes put together. -/
theorem pairsAreViews : Obligations.PairsAreViews := by
  intro s w v
  refine ⟨rfl, rfl, rfl, rfl, rfl, rfl, rfl, rfl, ?_, ?_, ?_, cat_hi8_lo8_masked w, rfl, rfl⟩ <;> exact cat_hi8_lo8 w

/-- Settles O28: the bits of F after one bit is set or cleared. -/
theorem flagRegisterKeepsItsForm : Obligations.FlagRegisterKeepsItsForm := by
  refine fun s v fl => ⟨rfl, ⟨rfl, rfl⟩, fun j hj => ?_⟩
  rw [decide_eq_decide.2 (eq_comm (a := j))]
  exact ⟨bitAt_setBitAt s.f fl.bit j hj, bitAt_clearBitAt s.f fl.bit j hj⟩

end Sys2Proof.Proofs

/-! SUPPORT. The routing of an address (R31 to R34, R37, R39): where an address and its echo go, what a read of a cell answers, and that a
write is stored or discarded. -/

namespace Sys2Proof.Machine

/-! The ranges of R31 that are routed differently from the rest, as ranges. -/

theorem rangeOf_eq_rom_iff (n : Nat) : rangeOf n = .rom ↔ n ≤ 0x7FFF := by
  unfold rangeOf; split_ifs <;> simp <;> omega

theorem rangeOf_eq_cram_iff (n : Nat) : rangeOf n = .cram ↔ 0xA000 ≤ n ∧ n ≤ 0xBFFF := by
  unfold rangeOf; split_ifs <;> simp <;> omega

theorem rangeOf_eq_unmapped_iff (n : Nat) : rangeOf n = .unmapped ↔ 0xFEA0 ≤ n ∧ n ≤ 0xFEFF := by
  unfold rangeOf; split_ifs <;> simp <;> omega

/-! An address that is no echo is its own cell; an echo address has the cell 0x2000 below it. -/

theorem cellOf_of_not_echo {a : Word} (h : ¬ (0xE000 ≤ a.toNat ∧ a.toNat ≤ 0xFDFF)) : cellOf a = a.toNat := by
  rw [cellOf, unecho, if_neg h]

theorem region_of_not_echo {a : Word} (h : ¬ (0xE000 ≤ a.toNat ∧ a.toNat ≤ 0xFDFF)) : region a = rangeOf a.toNat := by
  rw [region_eq, cellOf_of_not_echo h]

theorem region_unmapped {a : Word} (h : 0xFEA0 ≤ a.toNat ∧ a.toNat ≤ 0xFEFF) : region a = .unmapped := by
  rw [region_of_not_echo (by omega)]
  exact (rangeOf_eq_unmapped_iff _).2 h

theorem toNat_sub_of_echo {a : Word} (h : 0xE000 ≤ a.toNat) : (a - 0x2000).toNat = a.toNat - 0x2000 := by bv_omega

theorem cellOf_of_echo {a : Word} (h : 0xE000 ≤ a.toNat) (h' : a.toNat ≤ 0xFDFF) : cellOf a = a.toNat - 0x2000 := by
  rw [cellOf, unecho, if_pos ⟨h, h'⟩, toNat_sub_of_echo h]

theorem cellOf_sub_of_echo {a : Word} (h : 0xE000 ≤ a.toNat) (h' : a.toNat ≤ 0xFDFF) : cellOf (a - 0x2000) = cellOf a := by
  have hsub := toNat_sub_of_echo h
  rw [cellOf_of_not_echo (by omega), cellOf_of_echo h h', hsub]

/-- Two consecutive addresses are never one cell, so the bytes of a word are two cells (R37, R44). -/
theorem cellOf_add_one_ne (a : Word) : cellOf (a + 1) ≠ cellOf a := by
  unfold cellOf unecho
  split_ifs <;> bv_omega

variable {s : State} {a b : Word}

/-! Reading, storing and discarding. -/

theorem State.hasCell_iff : s.hasCell a = true ↔ region a ≠ .unmapped ∧ (region a = .cram → s.params.cartRam = .present) := by
  unfold State.hasCell; cases region a <;> simp

theorem State.writable_iff : s.writable a = true ↔ s.hasCell a = true ∧ region a ≠ .rom := by
  unfold State.writable State.hasCell; cases region a <;> simp

theorem State.read8_of_hasCell (h : s.hasCell a = true) (slot : ReadSlot) : s.read8 slot a = s.mem.get (cellOf a) := by
  obtain ⟨hmapped, hcram⟩ := State.hasCell_iff.1 h
  unfold State.read8
  cases hr : region a with
  | unmapped => exact absurd hr hmapped
  | cram => simp [hcram hr]
  | _ => rfl

theorem State.read8_of_unmapped (h : region a = .unmapped) (slot : ReadSlot) : s.read8 slot a = 0x00 := by
  simp [State.read8, h]

theorem State.write8_of_writable (h : s.writable a = true) (v : Byte) : s.write8 a v = { s with mem := s.mem.set (cellOf a) v } := if_pos h

theorem State.write8_of_not_writable (h : s.writable a = false) (v : Byte) : s.write8 a v = s := if_neg (by simp [h])

/-- Reads and writes see the cell of an address and nothing else of it. -/
theorem State.read8_congr_cell (h : cellOf a = cellOf b) (slot : ReadSlot) : s.read8 slot a = s.read8 slot b := by
  rw [State.read8, State.read8, region_eq, region_eq, h]

theorem State.write8_congr_cell (h : cellOf a = cellOf b) (v : Byte) : s.write8 a v = s.write8 b v := by
  rw [State.write8, State.write8, State.writable, State.writable, region_eq, region_eq, h]

/-! The same by the number of an address that is neither echo nor unmapped nor absent cartridge RAM. -/

section
variable (hecho : ¬ (0xE000 ≤ a.toNat ∧ a.toNat ≤ 0xFDFF)) (hmapped : ¬ (0xFEA0 ≤ a.toNat ∧ a.toNat ≤ 0xFEFF))
  (hcram : s.params.cartRam = .present ∨ ¬ (0xA000 ≤ a.toNat ∧ a.toNat ≤ 0xBFFF))
include hecho hmapped hcram

theorem State.hasCell_of_not_echo : s.hasCell a = true := by
  rw [State.hasCell_iff, region_of_not_echo hecho, Ne, rangeOf_eq_unmapped_iff, rangeOf_eq_cram_iff]
  exact ⟨hmapped, fun h => hcram.resolve_right (not_not_intro h)⟩

theorem State.read8_of_not_echo (slot : ReadSlot) : s.read8 slot a = s.mem.get a.toNat := by
  rw [State.read8_of_hasCell (State.hasCell_of_not_echo hecho hmapped hcram), cellOf_of_not_echo hecho]

theorem State.writable_of_not_echo (hrom : 0x8000 ≤ a.toNat) : s.writable a = true := by
  rw [State.writable_iff, region_of_not_echo hecho, Ne, rangeOf_eq_rom_iff]
  exact ⟨State.hasCell_of_not_echo hecho hmapped hcram, by omega⟩

theorem State.write8_of_not_echo (hrom : 0x8000 ≤ a.toNat) (v : Byte) : s.write8 a v = { s with mem := s.mem.set a.toNat v } := by
  rw [State.write8_of_writable (State.writable_of_not_echo hecho hmapped hcram hrom), cellOf_of_not_echo hecho]

end

/-- An echo address is in working RAM, which is always stored. -/
theorem State.writable_of_echo (h : 0xE000 ≤ a.toNat) (h' : a.toNat ≤ 0xFDFF) : s.writable a = true := by
  have hcell := cellOf_of_echo h h'
  rw [State.writable_iff, State.hasCell_iff, region_eq, Ne, Ne, rangeOf_eq_unmapped_iff, rangeOf_eq_cram_iff, rangeOf_eq_rom_iff, hcell]
  omega

theorem State.write8_of_rom (h : a.toNat ≤ 0x7FFF) (v : Byte) : s.write8 a v = s :=
  State.write8_of_not_writable (by simp [State.writable, region_rom h]) v

theorem State.write8_of_unmapped (h : region a = .unmapped) (v : Byte) : s.write8 a v = s :=
  State.write8_of_not_writable (by simp [State.writable, h]) v

theorem State.write8_of_absent (h : region a = .cram) (habsent : s.params.cartRam = .absent) (v : Byte) : s.write8 a v = s :=
  State.write8_of_not_writable (by simp [State.writable, h, habsent]) v

end Sys2Proof.Machine

/-! SUPPORT. Words and the stack (R43 to R47): a word access is two byte accesses, a stored word reads back, and a call's push is undone by
the return. -/

namespace Sys2Proof.Machine

open Sys2Proof.Claims

variable {s : State} {a : Word}

theorem State.read16_of_ne (h : a ≠ 0xFFFF) : s.read16 a = cat (s.read8 .data1 (a + 1)) (s.read8 .data0 a) := if_neg h

theorem State.read16_ffff (s : State) : s.read16 0xFFFF = cat s.highByteAtFFFF (s.read8 .data0 0xFFFF) := if_pos rfl

theorem State.write16_of_ne (h : a ≠ 0xFFFF) (w : Word) : s.write16 a w = (s.write8 a (lo8 w)).write8 (a + 1) (hi8 w) := by
  rw [State.write16, State.highAddr?, if_neg h]

/-- The high byte has no address at 0xFFFF, or goes to ROM, which discards it (R45). -/
theorem State.write16_ffff (s : State) (w : Word) : s.write16 0xFFFF w = s.write8 0xFFFF (lo8 w) := by
  rw [State.write16, State.highAddr?, if_pos rfl]
  cases s.params.wordAtFFFF with
  | unmapped => rfl
  | wrap => exact State.write8_of_rom (by decide) _

/-- A word whose bytes are both stored reads back. -/
theorem State.read16_write16 (h : WordStored s a) (w : Word) : (s.write16 a w).read16 a = w := by
  obtain ⟨hne, hlow, hhigh⟩ := h
  have hlo : ((s.write8 a (lo8 w)).write8 (a + 1) (hi8 w)).read8 .data0 a = lo8 w := by
    rw [State.read8_write8_other _ _ (cellOf_add_one_ne a).symm, State.read8_write8, if_pos ⟨rfl, hlow⟩]
  have hhi : ((s.write8 a (lo8 w)).write8 (a + 1) (hi8 w)).read8 .data1 (a + 1) = hi8 w := by
    rw [State.read8_write8, if_pos ⟨rfl, by rwa [State.writable_write8]⟩]
  rw [State.read16_of_ne hne, State.write16_of_ne hne, hlo, hhi, cat_hi8_lo8]

theorem State.popWord_push16 (h : WordStored s (s.sp - 2)) (w : Word) : (s.push16 w).popWord = w := by
  rw [State.popWord, State.push16_sp]
  exact State.read16_write16 (s := { s with sp := s.sp - 2 }) h w

/-- Returning from where a call jumped to: the pushed address is the new PC, SP is back, memory keeps the pushed word (R206, R208). -/
theorem returnTo_call (h : WordStored s (s.sp - 2)) (w a : Word) :
    returnTo ((s.push16 w).jump a) = { s with pc := w, mem := (s.push16 w).mem } := by
  have hpop : ((s.push16 w).jump a).popWord = w := State.popWord_push16 h w
  rw [returnTo, hpop]
  apply State.ext_fields <;> simp

end Sys2Proof.Machine

/-! SUPPORT. Reads after the stores of an instruction: every cell but theirs reads as before (R32, R48). -/

namespace Sys2Proof.Machine

theorem State.read8_store_other {s : State} {b : Word} {bytes : List (Word × Byte)} (slot : ReadSlot)
    (h : ∀ c ∈ bytes, cellOf b ≠ cellOf c.1) : (s.store bytes).read8 slot b = s.read8 slot b := by
  induction bytes generalizing s with
  | nil => rfl
  | cons c rest ih =>
    obtain ⟨hc, hrest⟩ := List.forall_mem_cons.1 h
    obtain ⟨a, v⟩ := c
    rw [State.store_cons, ih hrest, State.read8_write8_other v slot hc]

@[simp] theorem State.store_draws (s : State) (bytes : List (Word × Byte)) : (s.store bytes).draws = s.draws := by
  induction bytes generalizing s with
  | nil => rfl
  | cons c rest ih => rw [State.store_cons, ih, State.write8_draws]

theorem StoresAt.read8_other {s t : State} {addrs : List Word} {b : Word} (h : StoresAt s addrs t) (hdraws : t.draws = s.draws)
    (slot : ReadSlot) (hb : ∀ a ∈ addrs, cellOf b ≠ cellOf a) : t.read8 slot b = s.read8 slot b := by
  obtain ⟨hparams, bytes, hmem⟩ := h
  rw [State.read8_congr (s := s.store (addrs.zip bytes)) hmem (by simpa using hparams) (by simpa using hdraws)]
  exact State.read8_store_other slot fun c hc => hb c.1 (List.of_mem_zip hc).1

end Sys2Proof.Machine

/-! SUPPORT. The call rows: a condition of the statements is the model's, and an RST row is one of the eight targets (R66, R207, R211). -/

namespace Sys2Proof.Laws

open Sys2Proof.Machine Sys2Proof.Claims

theorem condTrue_eq_holds (s : State) (cc : Cond) : condTrue s cc = s.holds cc := by cases cc <;> rfl

theorem exec_taken_call {i : Instr} {s : State} {a : Word}
    (h : i = .CALL_a16 a ∨ ∃ cc, i.variant = .CALL_cc_a16 cc a ∧ condTrue s cc = true) : exec i s = callTo 3 a s := by
  obtain rfl | ⟨cc, hi, hcc⟩ := h
  · rfl
  · rw [exec_eq_execVariant, hi]
    exact if_pos (condTrue_eq_holds s cc ▸ hcc)

/-- The eight targets are 8 times the field of the encoding `11 yyy 111`. -/
theorem rstTargets_field : ∀ t ∈ rstTargets, ∃ y : BitVec 3, t.toNat = 8 * y.toNat ∧ 0b11000111 ||| t = byteXYZ 0b11 y 0b111 := by
  decide

theorem encode_of_rst {i : Instr} {t : Byte} (h : i.variant = .RST t) : t ∈ rstTargets ∧ encode i = [0b11000111 ||| t] := by
  have ht : t ∈ rstTargets := of_decide_eq_true (h ▸ variant_wellFormed i :)
  have hencode := encode?_isSome i
  rw [h, Variant.encode?, if_pos ht] at hencode
  exact ⟨ht, (Option.some.inj hencode).symm⟩

theorem zext16_eq_cat (t : Byte) : zext16 t = cat 0x00 t := BitVec.setWidth_eq_append (by decide)

end Sys2Proof.Laws

/-! The statements about memory (spec/20_memory.md). -/

namespace Sys2Proof.Proofs

open Sys2Proof.Machine Sys2Proof.Laws Sys2Proof.Claims

/-- Settles O18: an instruction stores at its store addresses only, and no store is seen through another cell. -/
theorem memoryOutsideTheStoredBytesIsKept : Obligations.MemoryOutsideTheStoredBytesIsKept := by
  intro i s t h slot b hb
  rw [exec_eq_execVariant] at h
  obtain ⟨-, -, -, hdraws⟩ := execVariant_ports h
  exact (execVariant_storesAt h).read8_other hdraws slot hb

/-- Settles O26: the pop reads the word where the push stored it. -/
theorem pushThenPopRestores : Obligations.PushThenPopRestores := by
  refine fun s w => ⟨State.push16_sp s w, ?_, fun h => State.popWord_push16 h w⟩
  rw [State.popped_sp, State.push16_sp, BitVec.sub_add_cancel]

/-- Settles O57: a taken call is `callTo`, and the return pops the address it pushed. -/
theorem returnComesBackAfterTheCall : Obligations.ReturnComesBackAfterTheCall := by
  intro i s a hstored hi
  refine ⟨(s.push16 (s.nextAddr 3)).jump a, exec_taken_call hi, rfl, ?_⟩
  exact congrArg Host.Outcome.next (returnTo_call hstored (s.nextAddr 3) a)

/-- Settles O22, range by range. -/
theorem readsAreRoutedByTheTable : Obligations.ReadsAreRoutedByTheTable := by
  intro s slot a hcram
  split_ifs with hdfff hfdff hfe9f hfeff
  · exact State.read8_of_not_echo (by omega) (by omega) hcram slot
  · exact State.read8_congr_cell (cellOf_sub_of_echo (by omega) hfdff).symm slot
  · exact State.read8_of_not_echo (by omega) (by omega) hcram slot
  · exact State.read8_of_unmapped (region_unmapped (by omega)) slot
  · exact State.read8_of_not_echo (by omega) (by omega) hcram slot

/-- Settles O23, range by range. -/
theorem writesChangeOneCellOrNone : Obligations.WritesChangeOneCellOrNone := by
  refine fun s a v => ⟨?_, ?_, ?_, ?_, ?_, fun n k => s.mem.get_set n k v⟩
  · rintro (hrom | hunmapped)
    · exact State.write8_of_rom hrom v
    · exact State.write8_of_unmapped (region_unmapped hunmapped) v
  · exact fun ha habsent => State.write8_of_absent (region_cram (by rwa [cellOf_of_not_echo (by omega)])) habsent v
  · exact fun ha hpresent => State.write8_of_not_echo (by omega) (by omega) (.inl hpresent) (by omega) v
  · exact fun ha => State.write8_of_not_echo (by omega) (by omega) (.inr (by omega)) (by omega) v
  · exact fun ha => State.write8_congr_cell (cellOf_sub_of_echo ha.1 ha.2).symm v

/-- Settles O24: the echo address and the address 0x2000 below it are one stored cell, and 0xDE00 to 0xDFFF are other cells. -/
theorem echoIsTheSameCell : Obligations.EchoIsTheSameCell := by
  intro s a x slot hlo hhi
  have hcell := cellOf_sub_of_echo hlo hhi
  have hwrite : s.write8 a x = s.write8 (a - 0x2000) x := State.write8_congr_cell hcell.symm x
  have hsame : (s.write8 a x).read8 slot a = x := by rw [State.read8_write8, if_pos ⟨rfl, State.writable_of_echo hlo hhi⟩]
  refine ⟨hsame, ?_, hwrite ▸ hsame, State.read8_congr_cell hcell.symm slot, hwrite, fun b hb hb' => ?_⟩
  · rw [State.read8_congr_cell hcell, hsame]
  · refine State.read8_write8_other x slot ?_
    rw [cellOf_of_echo hlo hhi, cellOf_of_not_echo (by omega)]
    omega

/-- Settles O25: 0xFFFF is `ie`, and 0x0000 is ROM. -/
theorem wordsAreTwoRoutedBytes : Obligations.WordsAreTwoRoutedBytes := by
  intro s a w
  have hie : s.read8 .data0 0xFFFF = s.mem.get 0xFFFF := State.read8_of_not_echo (by decide) (by decide) (.inr (by decide)) _
  have hrom : s.read8 .data1 0x0000 = s.mem.get 0x0000 := State.read8_of_not_echo (by decide) (by decide) (.inr (by decide)) _
  refine ⟨fun ha => ⟨State.read16_of_ne ha, State.write16_of_ne ha w⟩, fun hp => ?_, fun hp => ?_, ?_⟩
  · rw [State.read16_ffff, hie, State.highByteAtFFFF, hp]
  · rw [State.read16_ffff, hie, State.highByteAtFFFF, hp, hrom]
  · rw [State.write16_ffff]
    exact State.write8_of_not_echo (by decide) (by decide) (.inr (by decide)) (by decide) _

/-- Settles O38: POP AF is the write of a pair, which goes through to A and to F with its low nibble masked. -/
theorem popAFMasksF : Obligations.PopAFMasksF := fun _ => ⟨rfl, rfl⟩

/-- Settles O55: the row is one of the eight targets, and RST is a call of length 1. -/
theorem rstCallsAFixedAddress : Obligations.RstCallsAFixedAddress := by
  intro i s t hi
  obtain ⟨ht, hencode⟩ := encode_of_rst hi
  obtain ⟨y, hy, hbyte⟩ := rstTargets_field t ht
  refine ⟨⟨y, hy, by rw [hencode, hbyte]⟩, ?_⟩
  rw [exec_eq_execVariant, hi, ← zext16_eq_cat]
  rfl

/-- Settles O60: the first byte fetched is a read of the stored cell. -/
theorem fetchSeesTheLatestStore : Obligations.FetchSeesTheLatestStore := by
  intro s a b v hwritable hcell
  have hfirst : (s.write8 a v).read8 .fetch0 b = v := by rw [State.read8_write8, if_pos ⟨hcell, hwritable⟩]
  exact congrArg (decode · _ _) hfirst

end Sys2Proof.Proofs

/-! SUPPORT. The decoder by rows (R61, R69 to R71): each entry of the primary table but 0xCB, and each entry of the CB table, against the tables by fields and
against the encoder. -/

namespace Sys2Proof

/-- The operand bytes of an instruction of `len` bytes, as the encoder writes them for `OP`, `OP_D8` and `OP_D16` (R69). -/
def operandBytes (len : Nat) (b1 b2 : Byte) : List Byte :=
  match len with
  | 2 => [b1]
  | 3 => [lo8 (cat b2 b1), hi8 (cat b2 b1)]
  | _ => []

theorem cons_operandBytes_prefix (len : Nat) (b0 b1 b2 : Byte) : b0 :: operandBytes len b1 b2 <+: [b0, b1, b2] := by
  unfold operandBytes
  split <;> simp

theorem decodeCB_row (b1 : Byte) : (decodeCB b1).variant = decodeFieldsCB b1 ∧ encode (decodeCB b1) = [0xCB, b1] := by
  revert b1; decide

/-- The 255 rows of the primary table that are not the prefix. -/
theorem decode_row {b0 : Byte} (h : b0 ≠ 0xCB) (b1 b2 : Byte) :
    (decode b0 b1 b2).variant = decodeFields b0 b1 b2 ∧
      encode (decode b0 b1 b2) = b0 :: operandBytes (decode b0 b1 b2).encodedLength b1 b2 := by
  obtain ⟨n, hn, rfl⟩ : ∃ n < 256, b0 = BitVec.ofNat 8 n := ⟨b0.toNat, b0.isLt, by simp⟩
  obtain hlt | rfl | hgt := lt_trichotomy n 0xCB
  · interval_cases n <;> exact ⟨rfl, rfl⟩
  · exact absurd rfl h
  · interval_cases n <;> exact ⟨rfl, rfl⟩

theorem decode_variant (b0 b1 b2 : Byte) : (decode b0 b1 b2).variant = decodeFields b0 b1 b2 := by
  by_cases h : b0 = 0xCB
  · subst h; exact (decodeCB_row b1).1
  · exact (decode_row h b1 b2).1

/-- The encoding of what three bytes decode to is at their front. -/
theorem encode_decode_prefix (b0 b1 b2 : Byte) : encode (decode b0 b1 b2) <+: [b0, b1, b2] := by
  by_cases h : b0 = 0xCB
  · subst h; exact ⟨[b2], congrArg (· ++ [b2]) (decodeCB_row b1).2⟩
  · rw [(decode_row h b1 b2).2]; exact cons_operandBytes_prefix ..

/-- Three bytes that begin with the encoding of `i` decode to `i`: row by row, with the two operand bytes of a d16 or a16 put together. -/
theorem decode_of_encode_prefix {i : Instr} {b0 b1 b2 : Byte} (h : encode i <+: [b0, b1, b2]) : decode b0 b1 b2 = i := by
  obtain ⟨rest, h⟩ := h
  cases i with
  | LD_BC_d16 w | LD_DE_d16 w | LD_HL_d16 w | LD_SP_d16 w | LD_a16m_SP w | LD_a16m_A w | LD_A_a16m w | JP_a16 w | JP_NZ_a16 w | JP_Z_a16 w
  | JP_NC_a16 w | JP_C_a16 w | CALL_a16 w | CALL_NZ_a16 w | CALL_Z_a16 w | CALL_NC_a16 w | CALL_C_a16 w =>
    cases h
    exact congrArg _ (cat_hi8_lo8 w)
  | _ => cases h; rfl

end Sys2Proof

/-! SUPPORT. Lengths (R60, R73, R75): an encoding has as many bytes as its instruction counts, 1, 2 or 3, so three bytes always hold it. -/

namespace Sys2Proof.Laws

theorem encode_length (i : Instr) : (encode i).length = i.encodedLength := by cases i <;> rfl

theorem encodedLength_mem (i : Instr) : i.encodedLength ∈ [1, 2, 3] := by
  unfold Instr.encodedLength Instr.size
  cases i.variant <;> simp [Variant.size, StopLength.bytes, Params.default]

theorem encodedLength_le_three (i : Instr) : i.encodedLength ≤ 3 :=
  (by decide : ∀ n ∈ [1, 2, 3], n ≤ 3) _ (encodedLength_mem i)

/-- A list of at most three bytes at the front of another is within its first three bytes. -/
theorem prefix_firstThree {bytes : List Byte} (h : bytes.length ≤ 3) (rest : List Byte) :
    bytes <+: [(bytes ++ rest).getD 0 0, (bytes ++ rest).getD 1 0, (bytes ++ rest).getD 2 0] := by
  match bytes, h with
  | [], _ => exact List.nil_prefix
  | [_], _ => exact ⟨[_, _], rfl⟩
  | [_, _], _ => exact ⟨[_], rfl⟩
  | [_, _, _], _ => exact List.prefix_rfl

theorem decode_encode_append (i : Instr) (rest : List Byte) :
    decode ((encode i ++ rest).getD 0 0) ((encode i ++ rest).getD 1 0) ((encode i ++ rest).getD 2 0) = i := by
  refine decode_of_encode_prefix (prefix_firstThree ?_ rest)
  rw [encode_length]
  exact encodedLength_le_three i

theorem encode_injective : Function.Injective encode := by
  intro i j h
  rw [← decode_encode_append i [], h, decode_encode_append j []]

/-- An encoding is computed from the variant, so no two rows have the same variant (R78). -/
theorem variant_injective : Function.Injective Instr.variant :=
  fun _ _ h => encode_injective (congrArg (fun v => v.encode?.getD []) h)

end Sys2Proof.Laws

/-! SUPPORT. The row of a well-formed variant is what its bytes decode to (R74). -/

namespace Sys2Proof

/-- The instruction that the bytes of a variant decode to; a variant without an encoding has no row, and gets NOP. -/
def Variant.row (v : Variant) : Instr :=
  match v.encode? with
  | some (b0 :: tail) => decode b0 (tail.getD 0 0) (tail.getD 1 0)
  | _ => .NOP

theorem Loc8.mem_tableR {x : Loc8} (h : x.inTableR = true) : x ∈ tableR := by
  cases x with
  | HLm => decide
  | reg r =>
    cases r with
    | F => cases h
    | _ => decide

theorem AluOp.mem_tableAlu (op : AluOp) : op ∈ tableAlu := by cases op <;> decide

theorem RotOp.mem_tableRot (op : RotOp) : op ∈ tableRot := by cases op <;> decide

/-- By the shapes of R74: a table operand takes each entry of its table (R64 to R68), an immediate stays a variable. -/
theorem Variant.variant_row {v : Variant} (h : v.wellFormed = true) : v.row.variant = v := by
  cases v with
  | LD_r_r rd rs =>
    cases rd with
    | F => cases h
    | _ =>
      cases rs with
      | F => cases h
      | _ => rfl
  | LD_r_d8 r | LD_r_HLm r | LD_HLm_r r =>
    cases r with
    | F => cases h
    | _ => rfl
  | INC_s x | DEC_s x =>
    replace h := Loc8.mem_tableR h
    revert x; decide
  | ALU_s op x =>
    replace h := Loc8.mem_tableR h
    have hop := op.mem_tableAlu
    revert op; revert x; decide
  | ROT_s op x =>
    replace h := Loc8.mem_tableR h
    have hop := op.mem_tableRot
    revert op; revert x; decide
  | BIT_b_s b x | RES_b_s b x | SET_b_s b x =>
    replace h := Loc8.mem_tableR h
    revert b; revert x; decide
  | ADD_HL_rr p | INC_rr p | DEC_rr p =>
    cases p with
    | AF | PC => cases h
    | _ => rfl
  | LD_rr_d16 p d =>
    cases p with
    | AF | PC => cases h
    | _ => exact congrArg _ (cat_hi8_lo8 d)
  | PUSH_rr p =>
    cases p with
    | SP | PC => cases h
    | _ => rfl
  | POP_rr p =>
    cases p with
    | AF | SP | PC => cases h
    | _ => rfl
  | ALU_d8 op => cases op <;> rfl
  | JR_cc_e8 cc | RET_cc cc => cases cc <;> rfl
  | JP_cc_a16 cc a | CALL_cc_a16 cc a => cases cc <;> exact congrArg _ (cat_hi8_lo8 a)
  | LD_A_a16 a | LD_a16_A a | LD_a16_SP a | JP_a16 a | CALL_a16 a => exact congrArg _ (cat_hi8_lo8 a)
  | RST t =>
    replace h : t ∈ rstTargets := of_decide_eq_true h
    revert t; decide
  | ILLEGAL op =>
    replace h : op ∈ illegalBytes := of_decide_eq_true h
    revert op; decide
  | _ => rfl

end Sys2Proof

/-! SUPPORT. The forms after the prefix 0xCB, and the eleven ILLEGAL rows (R71, R72, R79, R225). -/

namespace Sys2Proof

/-- A form of the CB table takes the operand at index `z` of table `r` (R71, R79). -/
theorem decodeFieldsCB_operand (b1 : Byte) : ∃ x, tableR[(fieldZ b1).toNat]? = some x ∧
    ((∃ op, decodeFieldsCB b1 = .ROT_s op x) ∨ (∃ b, decodeFieldsCB b1 = .BIT_b_s b x) ∨
      (∃ b, decodeFieldsCB b1 = .RES_b_s b x) ∨ ∃ b, decodeFieldsCB b1 = .SET_b_s b x) := by
  have hsome : ∀ z : BitVec 3, tableR[z.toNat]? = some (tableR.getD z.toNat .HLm) := by decide
  refine ⟨_, hsome (fieldZ b1), ?_⟩
  unfold decodeFieldsCB
  dsimp only
  split
  · exact .inl ⟨_, rfl⟩
  · exact .inr (.inl ⟨_, rfl⟩)
  · exact .inr (.inr (.inl ⟨_, rfl⟩))
  · exact .inr (.inr (.inr ⟨_, rfl⟩))

theorem Variant.illegalByte?_eq_some {v : Variant} {op : Byte} : v.illegalByte? = some op ↔ v = .ILLEGAL op := by
  cases v <;> simp [Variant.illegalByte?]

theorem decode_variant_of_illegal {op : Byte} (h : op ∈ illegalBytes) (b1 b2 : Byte) : (decode op b1 b2).variant = .ILLEGAL op := by
  rw [← Variant.illegalByte?_eq_some, decode_illegalByte?, if_pos h]

theorem Laws.illegalOp_of_fault {s : Machine.State} (op : Byte) (hp : s.params.illegalPolicy = .fault) :
    Machine.illegalOp op s = .fault (.decodeFailure s.pc op) := by
  rw [Machine.illegalOp, hp]

end Sys2Proof

/-! The statements about the encoding (spec/30_encoding.md). -/

namespace Sys2Proof.Proofs

open Sys2Proof.Machine Sys2Proof.Laws

/-- Settles O2: the bytes decode to the instruction, and its length is what the decoder drops. -/
theorem decodeOfEncodeIsIdentity : Obligations.DecodeOfEncodeIsIdentity := by
  intro i rest
  have hi := decode_encode_append i rest
  have hlen := encode_length i
  have hpos := encodedLength_pos i
  cases hbytes : encode i with
  | nil => rw [hbytes, List.length_nil] at hlen; omega
  | cons b0 tail =>
    rw [hbytes] at hi hlen
    have hdecode : decode b0 ((tail ++ rest).getD 0 0) ((tail ++ rest).getD 1 0) = i := hi
    have htail : i.encodedLength - 1 = tail.length := by rw [← hlen]; rfl
    rw [List.cons_append, decodeBytes_cons (by rw [hdecode, List.length_append]; omega), hdecode, htail, List.drop_left]

/-- Settles O3: the encoding is at the front of the bytes, and bytes with the same front decode alike. -/
theorem decoderUsesExactlyItsBytes : Obligations.DecoderUsesExactlyItsBytes := by
  intro b0 b1 b2
  have hencode : encode (decode b0 b1 b2) = [b0, b1, b2].take (decode b0 b1 b2).encodedLength := by
    rw [← encode_length]; exact List.prefix_iff_eq_take.1 (encode_decode_prefix b0 b1 b2)
  refine ⟨hencode, fun c2 hlen => decode_of_encode_prefix ?_, fun c1 c2 hlen => decode_of_encode_prefix ?_⟩
  · rw [hencode]
    exact (List.take_prefix_take_left hlen).trans ⟨[c2], rfl⟩
  · rw [hencode]
    exact (List.take_prefix_take_left hlen).trans ⟨[c1, c2], rfl⟩

/-- Settles O4: entry for entry, the second table after the prefix. -/
theorem fieldTablesAgreeWithGrids : Obligations.FieldTablesAgreeWithGrids := decode_variant

/-- Settles O5: the row of a well-formed variant has that variant, and no other row has. -/
theorem variantsAndRowsCorrespond : Obligations.VariantsAndRowsCorrespond := by
  refine fun v => ⟨fun h => ⟨v.row, Variant.variant_row h, fun j hj => variant_injective ?_⟩, ?_⟩
  · rw [hj, Variant.variant_row h]
  · rintro ⟨i, rfl, -⟩
    exact variant_wellFormed i

/-- Settles O1: single entries of the tables, the shape of the CB rows, the eleven bytes and the lengths. -/
theorem sourceEncodingFactsHold : Obligations.SourceEncodingFactsHold := by
  intro b1 b2
  obtain ⟨hvariant, hencode⟩ := decodeCB_row b1
  refine ⟨rfl, ⟨rfl, rfl⟩, rfl, rfl, ⟨rfl, ?_, ?_⟩, fun b0 => ⟨⟨?_, fun hb0 => ⟨b0, decode_variant_of_illegal hb0 b1 b2⟩⟩, ?_⟩⟩
  · exact (encode_length (decodeCB b1)).symm.trans (congrArg List.length hencode)
  · rw [hvariant]
    exact decodeFieldsCB_operand b1
  · rintro ⟨op, hop⟩
    exact (decode_eq_illegal hop).2
  · exact encodedLength_mem (decode b0 b1 b2)

/-- Settles O59: a row of the eleven is its byte, and its meaning is the policy's. -/
theorem illegalBytesFollowThePolicy : Obligations.IllegalBytesFollowThePolicy := by
  refine ⟨fun op b1 b2 hop => ?_, fun i s op hi => ?_⟩
  · have hvariant := decode_variant_of_illegal hop b1 b2
    refine ⟨hvariant, ?_⟩
    rw [encode, hvariant, Variant.encode?, if_pos hop]
    rfl
  · rw [exec_eq_execVariant, hi]
    exact ⟨of_decide_eq_true (hi ▸ variant_wellFormed i :), illegalOp_of_nop op, illegalOp_of_fault op⟩

end Sys2Proof.Proofs

/-! SUPPORT. The 8-bit loads (R64, R100 to R118): the code of a byte register, the high page, and the next states of the shared operations. -/

namespace Sys2Proof.Laws

open Sys2Proof.Machine Sys2Proof.Claims

/-- A register of table `r` has a code; F has none (R64). -/
theorem code?_of_inTableR {r : Reg8} (h : r.inTableR = true) : r.code? = some (regCode r) := by
  cases r with
  | F => cases h
  | _ => rfl

/-- The bytes and the meaning of a row are those of its variant. -/
theorem encode_and_exec_of_variant {i : Instr} {v : Variant} {bytes : List Byte} {s : State} {o : Outcome} (hi : i.variant = v)
    (hencode : v.encode? = some bytes) (hexec : execVariant v s = o) : encode i = bytes ∧ exec i s = o := by
  constructor
  · rw [encode, hi, hencode]; rfl
  · rw [exec_eq_execVariant, hi, hexec]

/-- The same for a variant with one register operand, whose bytes are computed from the code of the register (R64). -/
theorem encode_and_exec_of_reg {i : Instr} {v : Variant} {r : Reg8} {bytes : BitVec 3 → List Byte} {s : State} {o : Outcome}
    (hi : i.variant = v) (hr : r.inTableR = true) (hencode : v.encode? = r.code?.bind fun c => some (bytes c))
    (hexec : execVariant v s = o) : encode i = bytes (regCode r) ∧ exec i s = o :=
  encode_and_exec_of_variant hi (by rw [hencode, code?_of_inTableR hr]; rfl) hexec

end Sys2Proof.Laws

namespace Sys2Proof.Machine

/-- The high page is the page 0xFF: adding the offset carries nothing into the high byte (R111, R113). -/
theorem highPage_eq_cat (o : Byte) : highPage o = cat 0xFF o := by
  revert o; decide

variable (s : State) (len : Nat) (a d : Word) (v : Byte)

theorem loadA_eq : loadA len a s = .next { s with a := s.read8 .data0 a, pc := s.pc + BitVec.ofNat 16 len } := rfl

theorem storeA_eq : storeA len a s = .next ((s.write8 a s.a).advance len) := rfl

/-- The step of HL leaves A as the access left it and starts from the HL that the access used. -/
theorem seq_set8_A_bumpHL : seq 1 ((s.set8 .A v).bumpHL d) =
    .next { s with a := v, h := hi8 (cat s.h s.l + d), l := lo8 (cat s.h s.l + d), pc := s.pc + 1 } := rfl

/-- A store changes neither HL nor PC, so the step after it starts from theirs. -/
theorem seq_write8_bumpHL : seq 1 ((s.write8 a v).bumpHL d) =
    .next { s.write8 a v with h := hi8 (cat s.h s.l + d), l := lo8 (cat s.h s.l + d), pc := s.pc + 1 } := by
  rw [← s.write8_h a v, ← s.write8_l a v, ← s.write8_pc a v]
  rfl

end Sys2Proof.Machine

/-! The statements about the 8-bit loads (spec/40_load8.md). -/

namespace Sys2Proof.Proofs

open Sys2Proof.Machine Sys2Proof.Laws Sys2Proof.Claims

/-- Settles O31: a row names registers of table `r` only, so each has its code, and the meaning is the one of the variant. -/
theorem loadsBetweenRegistersAndHLMoveTheByte : Obligations.LoadsBetweenRegistersAndHLMoveTheByte := by
  intro i s
  refine ⟨fun rd rs hi => ?_, fun r d hi => ?_, fun r hi => ?_, fun r hi => ?_, ?_⟩
  · obtain ⟨hrd, hrs⟩ := (Bool.and_eq_true _ _).mp (hi ▸ variant_wellFormed i :)
    exact encode_and_exec_of_variant hi (by rw [Variant.encode?, code?_of_inTableR hrd, code?_of_inTableR hrs]; rfl) rfl
  · exact encode_and_exec_of_reg hi (hi ▸ variant_wellFormed i :) rfl rfl
  · exact encode_and_exec_of_reg hi (hi ▸ variant_wellFormed i :) rfl rfl
  · exact encode_and_exec_of_reg hi (hi ▸ variant_wellFormed i :) rfl rfl
  · rintro d rfl
    exact ⟨rfl, rfl⟩

/-- Settles O32: each row is the load of A from its address, which for LDH is in the high page. -/
theorem loadsOfAFromMemory : Obligations.LoadsOfAFromMemory := by
  intro s a o
  rw [← highPage_eq_cat, ← highPage_eq_cat]
  exact ⟨⟨rfl, loadA_eq s 1 _⟩, ⟨rfl, loadA_eq s 1 _⟩, ⟨rfl, loadA_eq s 3 a⟩, ⟨rfl, loadA_eq s 1 (highPage s.c)⟩,
    ⟨rfl, loadA_eq s 2 (highPage o)⟩⟩

/-- Settles O33: each row is the store of A at its address, which for LDH is in the high page. -/
theorem storesOfAToMemory : Obligations.StoresOfAToMemory := by
  intro s a o
  rw [← highPage_eq_cat, ← highPage_eq_cat]
  exact ⟨⟨rfl, storeA_eq s 1 _⟩, ⟨rfl, storeA_eq s 1 _⟩, ⟨rfl, storeA_eq s 3 a⟩, ⟨rfl, storeA_eq s 1 (highPage s.c)⟩,
    ⟨rfl, storeA_eq s 2 (highPage o)⟩⟩

/-- Settles O34: the access at the old HL, then the step of HL; LDD steps by -1. -/
theorem ldiAndLddMoveHLAfterTheAccess : Obligations.LdiAndLddMoveHLAfterTheAccess := by
  intro s hl
  rw [BitVec.sub_eq_add_neg]
  exact ⟨⟨rfl, seq_set8_A_bumpHL s 1 _⟩, ⟨rfl, seq_write8_bumpHL s hl 1 s.a⟩, ⟨rfl, seq_set8_A_bumpHL s (-1) _⟩,
    ⟨rfl, seq_write8_bumpHL s hl (-1) s.a⟩⟩

end Sys2Proof.Proofs

/-! SUPPORT. The 16-bit loads and the stack (R65, R121 to R126): the codes of a register pair, and the flags after a flag write. -/

namespace Sys2Proof.Laws

open Sys2Proof.Machine Sys2Proof.Claims

/-- Each pair of table `rp` has a code (R65). -/
theorem rpCode?_of_inTableRp {rr : Reg16} (h : rr.inTableRp = true) : rr.rpCode? = some (rpCode rr) := by
  cases rr with
  | AF | PC => cases h
  | _ => rfl

/-- Each pair of table `rp2` has a code (R65). -/
theorem rp2Code?_of_inTableRp2 {rr : Reg16} (h : rr.inTableRp2 = true) : rr.rp2Code? = some (rp2Code rr) := by
  cases rr with
  | SP | PC => cases h
  | _ => rfl

/-- A flag write sets the flags it has a value for, and leaves the others and the low nibble of F alone (R11). -/
theorem flagsBecome_of_apply {s t : State} {w : FlagWrite} (h : t.f = w.apply s.f) :
    FlagsBecome s t (w.z.getD (s.flag .Z)) (w.n.getD (s.flag .N)) (w.h.getD (s.flag .H)) (w.c.getD (s.flag .C)) := by
  constructor
  · rw [flags, State.flag_of_apply h, State.flag_of_apply h, State.flag_of_apply h, State.flag_of_apply h]; rfl
  · rw [h, FlagWrite.apply_low]

end Sys2Proof.Laws

/-! The statements about the 16-bit loads and the stack (spec/41_load16_stack.md). -/

namespace Sys2Proof.Proofs

open Sys2Proof.Machine Sys2Proof.Laws Sys2Proof.Claims

/-- Settles O35: a row of LD rr,d16 names a pair of table `rp`, so it has its code; the other two are single rows. -/
theorem wideLoadsMoveTheWord : Obligations.WideLoadsMoveTheWord := by
  intro i s
  refine ⟨fun rr d hi => ?_, ?_, ?_⟩
  · have hrr : rr.inTableRp = true := (hi ▸ variant_wellFormed i :)
    exact encode_and_exec_of_variant hi (by rw [Variant.encode?, rpCode?_of_inTableRp hrr]; rfl) rfl
  · rintro a rfl
    exact ⟨rfl, rfl⟩
  · rintro rfl
    exact ⟨rfl, rfl⟩

/-- Settles O36, by the two values of `LDHL_FLAGS`; only `hardware` ends in a flag write. -/
theorem ldhlAddsTheSignedOffset : Obligations.LdhlAddsTheSignedOffset := by
  intro s e
  refine ⟨rfl, ?_⟩
  rw [exec_eq_execVariant, ← sext16_eq_signExtend]
  cases hp : s.params.ldhlFlags with
  | hardware =>
    exact ⟨_, ldhl_of_hardware e hp, rfl, fun _ => flagsBecome_of_apply (w := offsetFlags (addOffset s.sp e)) rfl, nofun⟩
  | unaffected => exact ⟨_, ldhl_of_unaffected e hp, rfl, nofun, fun _ => rfl⟩

/-- Settles O37: the rows name pairs of table `rp2`, so each has its code; POP AF is a row of its own. -/
theorem pushAndPopMoveThePair : Obligations.PushAndPopMoveThePair := by
  intro i s
  refine ⟨fun rr hi => ?_, fun rr hi => ?_⟩
  · have hrr : rr.inTableRp2 = true := (hi ▸ variant_wellFormed i :)
    exact encode_and_exec_of_variant hi (by rw [Variant.encode?, rp2Code?_of_inTableRp2 hrr]; rfl) rfl
  · obtain ⟨hrr, hAF⟩ := (Bool.and_eq_true _ _).mp (hi ▸ variant_wellFormed i :)
    exact encode_and_exec_of_variant hi
      (by rw [Variant.encode?, if_neg (of_decide_eq_true hAF), rp2Code?_of_inTableRp2 hrr]; rfl) rfl

end Sys2Proof.Proofs

/-! SUPPORT. 8-bit arithmetic and logic (R64, R130 to R148): the code of an operand location, and the next states of the shared operations. -/

namespace Sys2Proof.Laws

open Sys2Proof.Machine Sys2Proof.Claims

/-- Each operand location of table `r` has a code (R64). -/
theorem locCode?_of_inTableR {x : Loc8} (h : x.inTableR = true) : x.code? = some (locCode x) := by
  cases x with
  | reg r => exact code?_of_inTableR h
  | HLm => rfl

/-- `encode_and_exec_of_variant` for a variant with one operand location, whose bytes are computed from the code of the location (R64). -/
theorem encode_and_exec_of_loc {i : Instr} {v : Variant} {x : Loc8} {bytes : BitVec 3 → List Byte} {s : State} {o : Outcome}
    (hi : i.variant = v) (hx : x.inTableR = true) (hencode : v.encode? = x.code?.bind fun c => some (bytes c))
    (hexec : execVariant v s = o) : encode i = bytes (locCode x) ∧ exec i s = o :=
  encode_and_exec_of_variant hi (by rw [hencode, locCode?_of_inTableR hx]; rfl) hexec

/-- The forms of an ALU operation are encoded with its code in table `alu` (R132). -/
theorem aluEncoding_code (op : AluOp) : AluEncoding op op.code := by
  refine fun i => ⟨fun x hi => ?_, fun d hi => ?_⟩
  · rw [encode, hi, Variant.encode?, locCode?_of_inTableR (hi ▸ variant_wellFormed i :)]; rfl
  · rw [encode, hi]; rfl

/-- Every form of an ALU operation applies it to its operand and moves PC past itself (R132). -/
theorem exec_of_aluForm {op : AluOp} {i : Instr} {s : State} {v : Byte} {n : Nat} (h : AluForm op i s v n) :
    exec i s = seq n (aluApply op v s) := by
  rw [exec_eq_execVariant]
  obtain ⟨x, hi, rfl, rfl⟩ | ⟨hi, rfl⟩ := h
  · rw [hi]; rfl
  · rw [hi]; rfl

/-- The next state after an arithmetic primitive: A, the four flags and PC, nothing else. -/
theorem next_of_arith {i : Instr} {s : State} {r : AluOut 8} {n : Bool} {len : Nat} (h : exec i s = seq len (arith r n s)) :
    ∃ t, exec i s = .next t ∧ t.a = r.result ∧ t = { s with a := t.a, f := t.f, pc := s.pc + BitVec.ofNat 16 len } ∧
      FlagsBecome s t (isZero r.result) n r.half r.carry :=
  ⟨_, h, rfl, rfl, flagsBecome_of_apply (w := .all (isZero r.result) n r.half r.carry) rfl⟩

/-- The next state after CP: the flags of the difference, and A as it was (R140). -/
theorem next_of_compare {i : Instr} {s : State} {v : Byte} {len : Nat} (h : exec i s = seq len (aluApply .CP v s)) :
    ∃ t, exec i s = .next t ∧ t = { s with f := t.f, pc := s.pc + BitVec.ofNat 16 len } ∧
      FlagsBecome s t (isZero (sub8 s.a v false).result) true (sub8 s.a v false).half (sub8 s.a v false).carry :=
  ⟨_, h, rfl, flagsBecome_of_apply
    (w := .all (isZero (sub8 s.a v false).result) true (sub8 s.a v false).half (sub8 s.a v false).carry) rfl⟩

/-- The next state after a logical operation. -/
theorem next_of_logic {i : Instr} {s : State} {r : Byte} {h : Bool} {len : Nat} (hexec : exec i s = seq len (logic r h s)) :
    ∃ t, exec i s = .next t ∧ t = { s with a := r, f := t.f, pc := s.pc + BitVec.ofNat 16 len } ∧
      FlagsBecome s t (decide (r = 0x00)) false h false :=
  ⟨_, hexec, rfl, flagsBecome_of_apply (w := .all (isZero r) false h false) rfl⟩

/-- The next state after an operand is written and then flags are: the operand of table `r` is not F, so the flags start from the old F. -/
theorem next_of_writeLoc {i : Instr} {s : State} {x : Loc8} {v : Byte} {w : FlagWrite} {len : Nat} (hx : x.inTableR = true)
    (h : exec i s = seq len ((s.writeLoc x v).writeFlags w)) :
    ∃ t, exec i s = .next t ∧ t = { s.writeLoc x v with f := t.f, pc := s.pc + BitVec.ofNat 16 len } ∧
      FlagsBecome s t (w.z.getD (s.flag .Z)) (w.n.getD (s.flag .N)) (w.h.getD (s.flag .H)) (w.c.getD (s.flag .C)) := by
  refine ⟨_, h, ?_, flagsBecome_of_apply (congrArg w.apply (s.writeLoc_f v hx))⟩
  rw [← s.writeLoc_pc x v]
  rfl

/-- An operand location that is read/write holds what was written to it, and stays the same location, whatever F and PC become. -/
theorem readLoc_of_writeLoc {s t : State} {x : Loc8} {v f : Byte} {p : Word} (hx : x.inTableR = true)
    (hw : x = .HLm → s.writable s.hl = true) (ht : t = { s.writeLoc x v with f := f, pc := p }) :
    t.readLoc x = v ∧ (x = .HLm → t.writable t.hl = true) := by
  subst ht
  cases x with
  | reg r =>
    refine ⟨?_, nofun⟩
    cases r with
    | F => cases hx
    | _ => rfl
  | HLm =>
    have hhl : (s.write8 s.hl v).hl = s.hl := by rw [State.hl_eq, State.hl_eq, State.write8_h, State.write8_l]
    constructor
    · change (s.write8 s.hl v).read8 .data0 (s.write8 s.hl v).hl = v
      rw [hhl, State.read8_write8, if_pos ⟨rfl, hw rfl⟩]
    · intro _
      change (s.write8 s.hl v).writable (s.write8 s.hl v).hl = true
      rw [hhl, State.writable_write8, hw rfl]

/-- The second of two writes to one operand location reads the first and is what stays. -/
theorem readLoc_of_two_writes {s t u : State} {x : Loc8} {v v' f f' : Byte} {p p' : Word} (hx : x.inTableR = true)
    (hw : x = .HLm → s.writable s.hl = true) (ht : t = { s.writeLoc x v with f := f, pc := p })
    (hu : u = { t.writeLoc x v' with f := f', pc := p' }) : t.readLoc x = v ∧ u.readLoc x = v' := by
  obtain ⟨htx, htw⟩ := readLoc_of_writeLoc hx hw ht
  exact ⟨htx, (readLoc_of_writeLoc hx htw hu).1⟩

end Sys2Proof.Laws

namespace Sys2Proof.Claims.FlagsBecome

open Sys2Proof.Machine

variable {s t u : State} {z n h c z' n' h' c' : Bool}

/-- The later of two flag writes counts. -/
theorem trans (hst : FlagsBecome s t z n h c) (htu : FlagsBecome t u z' n' h' c') : FlagsBecome s u z' n' h' c' :=
  ⟨htu.1, htu.2.trans hst.2⟩

theorem flag_Z (hst : FlagsBecome s t z n h c) : t.flag .Z = z := congrArg (·.1) hst.1

theorem flag_N (hst : FlagsBecome s t z n h c) : t.flag .N = n := congrArg (·.2.1) hst.1

theorem flag_H (hst : FlagsBecome s t z n h c) : t.flag .H = h := congrArg (·.2.2.1) hst.1

theorem flag_C (hst : FlagsBecome s t z n h c) : t.flag .C = c := congrArg (·.2.2.2) hst.1

end Sys2Proof.Claims.FlagsBecome

/-! SUPPORT. The primitives `add8` and `sub8` (R130, R131), with the borrow of R131 stated without negative numbers. -/

namespace Sys2Proof

open Sys2Proof.Claims

theorem num_false : num false = 0 := rfl

theorem num_le_one (cin : Bool) : num cin ≤ 1 := by cases cin <;> decide

/-- The number of a carry that a comparison decides. -/
theorem num_decide (p : Prop) [Decidable p] : num (decide p) = if p then 1 else 0 := by
  rw [num]; simp only [decide_eq_true_eq]

variable (a b : Byte) (cin : Bool)

theorem add8_result_toNat : (add8 a b cin).result.toNat = (a.toNat + b.toNat + num cin) % 256 := BitVec.toNat_ofNat ..

theorem add8_carry : (add8 a b cin).carry = decide (255 < a.toNat + b.toNat + num cin) := rfl

theorem add8_half : (add8 a b cin).half = decide (15 < a.toNat % 16 + b.toNat % 16 + num cin) := rfl

theorem sub8_carry : (sub8 a b cin).carry = decide (a.toNat < b.toNat + num cin) := by
  rw [sub8, decide_eq_decide, show carryIn cin = num cin from rfl]
  omega

theorem sub8_half : (sub8 a b cin).half = decide (a.toNat % 16 < b.toNat % 16 + num cin) := by
  rw [sub8, decide_eq_decide, show carryIn cin = num cin from rfl, lowNibble, lowNibble]
  omega

theorem sub8_result_toNat : (sub8 a b cin).result.toNat = (a.toNat + 256 - (b.toNat + num cin)) % 256 := by
  have hcin := num_le_one cin
  rw [sub8, BitVec.toNat_ofInt, show carryIn cin = num cin from rfl]
  omega

theorem sub8_result : (sub8 a b cin).result = a - b - BitVec.ofNat 8 (num cin) := by
  have hcin := num_le_one cin
  apply BitVec.eq_of_toNat_eq
  rw [sub8_result_toNat, BitVec.toNat_sub, BitVec.toNat_sub, BitVec.toNat_ofNat]
  omega

/-- Without a borrow in, the difference is zero just for equal operands. -/
theorem isZero_sub8_result : isZero (sub8 a b false).result = decide (a = b) := by
  rw [sub8_result, isZero, decide_eq_decide, num_false, BitVec.sub_zero]
  exact sub_eq_zero

theorem add8_one_result : (add8 a 1 false).result = a + 1 := by
  apply BitVec.eq_of_toNat_eq
  rw [add8_result_toNat, BitVec.toNat_add]
  rfl

theorem isZero_add8_one_result : isZero (add8 a 1 false).result = decide (a = 0xFF) := by
  rw [add8_one_result, isZero, decide_eq_decide]
  bv_omega

theorem add8_one_half : (add8 a 1 false).half = decide (a.toNat % 16 = 15) := by
  rw [add8_half, decide_eq_decide]
  change 15 < a.toNat % 16 + 1 + 0 ↔ _
  omega

theorem sub8_one_result : (sub8 a 1 false).result = a - 1 := by
  rw [sub8_result]
  exact BitVec.sub_zero _

theorem sub8_one_half : (sub8 a 1 false).half = decide (a.toNat % 16 = 0) := by
  rw [sub8_half, decide_eq_decide]
  change a.toNat % 16 < 1 + 0 ↔ _
  omega

end Sys2Proof

/-! SUPPORT. Decimal adjust (R145): its two cases, and what it makes of the sum and of the difference of two packed decimals. -/

namespace Sys2Proof

open Sys2Proof.Claims

theorem decimalAdjust_of_add (a : Byte) (h c : Bool) : decimalAdjust a false h c =
    (a + (if h = true ∨ 9 < a.toNat % 16 then 0x06 else 0x00) + (if c = true ∨ 0x99 < a.toNat then 0x60 else 0x00),
      decide (c = true ∨ 0x99 < a.toNat)) := by
  simp only [decimalAdjust, Bool.false_eq_true, if_false, Bool.or_eq_true, decide_eq_true_eq, BitVec.add_assoc, Bool.decide_or,
    Bool.decide_eq_true]
  rfl

theorem decimalAdjust_of_sub (a : Byte) (h c : Bool) : decimalAdjust a true h c =
    (a - (if h = true then 0x06 else 0x00) - (if c = true then 0x60 else 0x00), c) := by
  rw [decimalAdjust, if_pos rfl, sub_sub]

theorem bcd_toNat {n : Nat} (hn : n < 100) : (bcd n).toNat = n / 10 * 16 + n % 10 := by
  rw [bcd, BitVec.toNat_ofNat, Nat.mod_eq_of_lt (show n / 10 < 10 by omega)]
  omega

theorem isZero_bcd {n : Nat} (hn : n < 100) : isZero (bcd n) = decide (n = 0) := by
  rw [isZero, decide_eq_decide, ← BitVec.toNat_inj, bcd_toNat hn]
  change _ = 0 ↔ _
  omega

section
variable {x y : Nat} (hx : x < 100) (hy : y < 100)
include hx hy

/-- After a binary sum of packed decimals the low digit needs its adjustment just when the units carry in decimal. -/
theorem add8_bcd_low : ((add8 (bcd x) (bcd y) false).half = true ∨ 9 < (add8 (bcd x) (bcd y) false).result.toNat % 16) ↔
    10 ≤ x % 10 + y % 10 := by
  rw [add8_half, add8_result_toNat, bcd_toNat hx, bcd_toNat hy, decide_eq_true_iff, num_false]
  omega

/-- The high digit needs its adjustment just when the decimal sum has a third digit. -/
theorem add8_bcd_high : ((add8 (bcd x) (bcd y) false).carry = true ∨ 0x99 < (add8 (bcd x) (bcd y) false).result.toNat) ↔
    100 ≤ x + y := by
  have hcarry : ∀ sum : Nat, (255 < sum ∨ 0x99 < sum % 256) ↔ 0x99 < sum := by omega
  rw [add8_carry, add8_result_toNat, decide_eq_true_iff, hcarry, bcd_toNat hx, bcd_toNat hy, num_false]
  omega

theorem decimalAdjust_add8_bcd :
    decimalAdjust (add8 (bcd x) (bcd y) false).result false (add8 (bcd x) (bcd y) false).half (add8 (bcd x) (bcd y) false).carry =
      (bcd ((x + y) % 100), decide (100 ≤ x + y)) := by
  have hsum := add8_result_toNat (bcd x) (bcd y) false
  rw [bcd_toNat hx, bcd_toNat hy, num_false] at hsum
  simp only [decimalAdjust_of_add, add8_bcd_low hx hy, add8_bcd_high hx hy]
  congr 1
  apply BitVec.eq_of_toNat_eq
  rw [BitVec.toNat_add, BitVec.toNat_add, hsum, bcd_toNat (Nat.mod_lt _ (by decide))]
  split <;> split <;> bv_omega

theorem decimalAdjust_sub8_bcd :
    decimalAdjust (sub8 (bcd x) (bcd y) false).result true (sub8 (bcd x) (bcd y) false).half (sub8 (bcd x) (bcd y) false).carry =
      (bcd ((100 + x - y) % 100), decide (x < y)) := by
  have hdiff := sub8_result_toNat (bcd x) (bcd y) false
  have hhalf : (sub8 (bcd x) (bcd y) false).half = decide (x % 10 < y % 10) := by
    rw [sub8_half, decide_eq_decide, bcd_toNat hx, bcd_toNat hy, num_false]
    omega
  have hcarry : (sub8 (bcd x) (bcd y) false).carry = decide (x < y) := by
    rw [sub8_carry, decide_eq_decide, bcd_toNat hx, bcd_toNat hy, num_false]
    omega
  rw [bcd_toNat hx, bcd_toNat hy, num_false] at hdiff
  simp only [decimalAdjust_of_sub, hhalf, hcarry, decide_eq_true_iff]
  congr 1
  apply BitVec.eq_of_toNat_eq
  rw [BitVec.toNat_sub, BitVec.toNat_sub, hdiff, bcd_toNat (Nat.mod_lt _ (by decide))]
  split <;> split <;> bv_omega

end

end Sys2Proof

namespace Sys2Proof.Laws

open Sys2Proof.Machine Sys2Proof.Claims

/-- The next state after DAA: A, the flags but N, and PC. -/
theorem next_of_daa (s : State) :
    ∃ t, exec .DAA s = .next t ∧ t = { s with a := t.a, f := t.f, pc := s.pc + 1 } ∧
      t.a = (decimalAdjust s.a (s.flag .N) (s.flag .H) (s.flag .C)).1 ∧
      FlagsBecome s t (isZero t.a) (s.flag .N) false (decimalAdjust s.a (s.flag .N) (s.flag .H) (s.flag .C)).2 :=
  ⟨_, rfl, rfl, rfl, flagsBecome_of_apply (w := { z := some _, h := some false, c := some _ }) rfl⟩

/-- DAA after an arithmetic primitive adjusts the result by the flags of the primitive. -/
theorem daa_after_arith {i : Instr} {s : State} {r : AluOut 8} {n : Bool} {len : Nat} {d : Byte × Bool}
    (h : exec i s = seq len (arith r n s)) (hd : decimalAdjust r.result n r.half r.carry = d) :
    ∃ t u, exec i s = .next t ∧ exec .DAA t = .next u ∧ u.a = d.1 ∧ u.flag .C = d.2 ∧ u.flag .Z = isZero d.1 := by
  obtain ⟨t, ht, ha, -, hst⟩ := next_of_arith h
  obtain ⟨u, hu, -, hua, htu⟩ := next_of_daa t
  rw [ha, hst.flag_N, hst.flag_H, hst.flag_C, hd] at hua htu
  exact ⟨t, u, ht, hu, hua, htu.flag_C, hua ▸ htu.flag_Z⟩

end Sys2Proof.Laws

/-! The statements about 8-bit arithmetic and logic (spec/42_alu8.md). -/

namespace Sys2Proof.Proofs

open Sys2Proof.Machine Sys2Proof.Laws Sys2Proof.Claims

/-- Settles O29: the contracts, and with them the exact sum and difference. -/
theorem addersMeetTheirContracts : Obligations.AddersMeetTheirContracts := by
  intro a b cin
  have ha := a.isLt
  have hb := b.isLt
  refine ⟨⟨add8_result_toNat a b cin, ?_, ?_, ?_⟩, sub8_result a b cin, ?_, ?_, ?_⟩
  · rw [add8_carry, decide_eq_true_iff]
  · rw [add8_half, decide_eq_true_iff]
  · have hcin := num_le_one cin
    rw [add8_result_toNat, add8_carry, num_decide]
    split <;> omega
  · rw [sub8_carry, decide_eq_true_iff]
  · rw [sub8_half, decide_eq_true_iff]
  · have hcin := num_le_one cin
    rw [sub8_result_toNat, sub8_carry, num_decide]
    split <;> omega

/-- Settles O39: every form applies `add8`, with the carry-in of its mnemonic. -/
theorem addAndAdcGiveTheSum : Obligations.AddAndAdcGiveTheSum := by
  refine ⟨aluEncoding_code .ADD, aluEncoding_code .ADC, fun i s v n cin h => ?_⟩
  obtain ⟨b, rfl, hexec⟩ : ∃ b, cin = num b ∧ exec i s = seq n (arith (add8 s.a v b) false s) := by
    obtain ⟨hform, rfl⟩ | ⟨hform, rfl⟩ := h
    · exact ⟨false, rfl, exec_of_aluForm hform⟩
    · exact ⟨s.flag .C, rfl, exec_of_aluForm hform⟩
  obtain ⟨t, ht, ha, hframe, hflags⟩ := next_of_arith hexec
  refine ⟨t, ht, ?_, hframe, ?_⟩
  · rw [ha, add8_result_toNat]
  · rwa [ha]

/-- Settles O40: every form applies `sub8`; CP keeps the flags only, and its Z compares A with the operand. -/
theorem subSbcAndCpGiveTheDifference : Obligations.SubSbcAndCpGiveTheDifference := by
  refine ⟨aluEncoding_code .SUB, aluEncoding_code .SBC, aluEncoding_code .CP, fun i s v n => ⟨fun cin h => ?_, fun hform => ?_⟩⟩
  · obtain ⟨b, rfl, hexec⟩ : ∃ b, cin = num b ∧ exec i s = seq n (arith (sub8 s.a v b) true s) := by
      obtain ⟨hform, rfl⟩ | ⟨hform, rfl⟩ := h
      · exact ⟨false, rfl, exec_of_aluForm hform⟩
      · exact ⟨s.flag .C, rfl, exec_of_aluForm hform⟩
    obtain ⟨t, ht, ha, hframe, hflags⟩ := next_of_arith hexec
    rw [sub8_half, sub8_carry, ← ha] at hflags
    exact ⟨t, ht, ha.trans (sub8_result s.a v b), hframe, hflags⟩
  · obtain ⟨t, ht, hframe, hflags⟩ := next_of_compare (exec_of_aluForm hform)
    rw [sub8_half, sub8_carry, isZero_sub8_result] at hflags
    exact ⟨t, ht, hframe, hflags⟩

/-- Settles O41: every form is a logical operation, with H as the operation forces it. -/
theorem logicCombinesBitwise : Obligations.LogicCombinesBitwise := by
  refine ⟨aluEncoding_code .AND, aluEncoding_code .XOR, aluEncoding_code .OR, fun i s v r n h hform => ?_⟩
  obtain ⟨hform, rfl, rfl⟩ | ⟨hform, rfl, rfl⟩ | ⟨hform, rfl, rfl⟩ := hform
  · exact next_of_logic (exec_of_aluForm hform)
  · exact next_of_logic (exec_of_aluForm hform)
  · exact next_of_logic (exec_of_aluForm hform)

/-- Settles O42: the operand is written back, and the flags of `add8` and `sub8` with 1 are read off the old operand. -/
theorem incAndDecOfAByte : Obligations.IncAndDecOfAByte := by
  refine fun i s x => ⟨fun hi => ?_, fun hi => ?_⟩
  · have hx : x.inTableR = true := (hi ▸ variant_wellFormed i :)
    obtain ⟨hencode, hexec⟩ := encode_and_exec_of_loc (s := s) hi hx rfl rfl
    obtain ⟨t, ht, hframe, hflags⟩ := next_of_writeLoc hx hexec
    rw [add8_one_result] at hframe
    rw [← isZero_add8_one_result, ← add8_one_half]
    exact ⟨hencode, t, ht, hframe, hflags⟩
  · have hx : x.inTableR = true := (hi ▸ variant_wellFormed i :)
    obtain ⟨hencode, hexec⟩ := encode_and_exec_of_loc (s := s) hi hx rfl rfl
    obtain ⟨t, ht, hframe, hflags⟩ := next_of_writeLoc hx hexec
    rw [sub8_one_result] at hframe
    rw [← isZero_sub8_result, ← sub8_one_half]
    exact ⟨hencode, t, ht, hframe, hflags⟩

/-- Settles O43, by the two cases of the adjustment. -/
theorem daaAdjustsByItsRule : Obligations.DaaAdjustsByItsRule := by
  refine fun s => ⟨rfl, ?_⟩
  obtain ⟨t, ht, hframe, ha, hflags⟩ := next_of_daa s
  refine ⟨t, ht, hframe, fun hN => ?_, fun hN => ?_⟩
  · rw [hN, decimalAdjust_of_add] at ha hflags
    exact ⟨ha, hflags⟩
  · rw [hN, decimalAdjust_of_sub] at ha hflags
    exact ⟨ha, hflags⟩

/-- Settles O45: CPL writes A, SCF and CCF write flags only; each keeps Z. -/
theorem cplScfAndCcf : Obligations.CplScfAndCcf := by
  intro s
  have hnot : s.a ^^^ 0xFF = ~~~s.a := BitVec.xor_allOnes
  refine ⟨⟨rfl, _, rfl, ?_, flagsBecome_of_apply (w := { n := some true, h := some true }) rfl⟩,
    ⟨rfl, _, rfl, rfl, flagsBecome_of_apply (w := { n := some false, h := some false, c := some true }) rfl⟩,
    ⟨rfl, _, rfl, rfl, flagsBecome_of_apply (w := { n := some false, h := some false, c := some (!s.flag .C) }) rfl⟩⟩
  rw [← hnot]
  rfl

/-- Settles O44: DAA adjusts by the flags of the addition or subtraction, and what it gives is the packed decimal result. -/
theorem daaGivesDecimalArithmetic : Obligations.DaaGivesDecimalArithmetic := by
  intro s x y hx hy ha
  constructor
  · obtain ⟨t, u, ht, hu, hA, hC, hZ⟩ := daa_after_arith (i := .ADD_A_d8 (bcd y)) (s := s) (len := 2) rfl
      (ha ▸ decimalAdjust_add8_bcd hx hy)
    exact ⟨t, u, ht, hu, hA, hC, hZ.trans (isZero_bcd (by omega))⟩
  · obtain ⟨t, u, ht, hu, hA, hC, hZ⟩ := daa_after_arith (i := .SUB_d8 (bcd y)) (s := s) (len := 2) rfl
      (ha ▸ decimalAdjust_sub8_bcd hx hy)
    refine ⟨t, u, ht, hu, hA, hC, hZ.trans ((isZero_bcd (by omega)).trans ?_)⟩
    rw [decide_eq_decide]
    omega

/-- Settles O46: the second instruction reads what the first wrote back, and its flags count, with C the old one. -/
theorem incThenDecRestores : Obligations.IncThenDecRestores := by
  intro s x i j hi hj hw
  have hx : x.inTableR = true := (hi ▸ variant_wellFormed i :)
  constructor
  · obtain ⟨-, t, ht, htframe, hst⟩ := (incAndDecOfAByte i s x).1 hi
    obtain ⟨-, u, hu, huframe, htu⟩ := (incAndDecOfAByte j t x).2 hj
    obtain ⟨htx, hux⟩ := readLoc_of_two_writes hx hw htframe huframe
    have hzero : s.readLoc x + 1 = 0x01 ↔ s.readLoc x = 0x00 := by bv_omega
    have hhalf : (s.readLoc x + 1).toNat % 16 = 0 ↔ (s.readLoc x).toNat % 16 = 15 := by bv_omega
    refine ⟨t, u, ht, hu, ?_, ?_⟩
    · rw [hux, htx, BitVec.add_sub_cancel]
    · simpa only [htx, hst.flag_C, hzero, hhalf] using hst.trans htu
  · obtain ⟨-, t, ht, htframe, hst⟩ := (incAndDecOfAByte j s x).2 hj
    obtain ⟨-, u, hu, huframe, htu⟩ := (incAndDecOfAByte i t x).1 hi
    obtain ⟨htx, hux⟩ := readLoc_of_two_writes hx hw htframe huframe
    have hzero : s.readLoc x - 1 = 0xFF ↔ s.readLoc x = 0x00 := by bv_omega
    have hhalf : (s.readLoc x - 1).toNat % 16 = 15 ↔ (s.readLoc x).toNat % 16 = 0 := by bv_omega
    refine ⟨t, u, ht, hu, ?_, ?_⟩
    · rw [hux, htx, BitVec.sub_add_cancel]
    · simpa only [htx, hst.flag_C, hzero, hhalf] using hst.trans htu

end Sys2Proof.Proofs

/-! SUPPORT. 16-bit arithmetic (R65, R160): the code of a pair operand, and the primitive `add16` without a carry in. -/

namespace Sys2Proof.Laws

open Sys2Proof.Machine Sys2Proof.Claims

/-- `encode_and_exec_of_variant` for a variant with one pair of table `rp`, whose bytes are computed from the code of the pair (R65). -/
theorem encode_and_exec_of_pair {i : Instr} {v : Variant} {rr : Reg16} {bytes : BitVec 2 → List Byte} {s : State} {o : Outcome}
    (hi : i.variant = v) (hrr : rr.inTableRp = true) (hencode : v.encode? = rr.rpCode?.bind fun c => some (bytes c))
    (hexec : execVariant v s = o) : encode i = bytes (rpCode rr) ∧ exec i s = o :=
  encode_and_exec_of_variant hi (by rw [hencode, rpCode?_of_inTableRp hrr]; rfl) hexec

section

variable (a b : Word)

theorem add16_result : (add16 a b false).result = a + b := (BitVec.add_def a b).symm

theorem add16_half : (add16 a b false).half = decide (0x0FFF < a.toNat % 4096 + b.toNat % 4096) := rfl

theorem add16_carry : (add16 a b false).carry = decide (0xFFFF < a.toNat + b.toNat) := rfl

end

/-- The next state after ADD HL,rr: HL, the flags but Z, and PC (R161). -/
theorem next_of_addHL {i : Instr} {s : State} {rr : Reg16} (h : exec i s = addHL rr s) :
    ∃ t, exec i s = .next t ∧ t = { s with h := hi8 (s.hl + s.get16 rr), l := lo8 (s.hl + s.get16 rr), f := t.f, pc := s.pc + 1 } ∧
      FlagsBecome s t (s.flag .Z) false (add16 s.hl (s.get16 rr) false).half (add16 s.hl (s.get16 rr) false).carry := by
  refine ⟨_, h, ?_, flagsBecome_of_apply (w := { n := some false, h := some _, c := some _ }) rfl⟩
  rw [← add16_result]
  rfl

end Sys2Proof.Laws

/-! The statements about 16-bit arithmetic (spec/43_alu16.md). -/

namespace Sys2Proof.Proofs

open Sys2Proof.Machine Sys2Proof.Laws Sys2Proof.Claims

/-- Settles O47: a row names a pair of table `rp`, so it has its code; ADD HL,rr applies `add16` and keeps Z. -/
theorem pairArithmetic : Obligations.PairArithmetic := by
  refine fun i s rr => ⟨fun hi => ?_, fun hi => ?_, fun hi => ?_⟩
  · obtain ⟨hencode, hexec⟩ := encode_and_exec_of_pair (s := s) hi (hi ▸ variant_wellFormed i :) rfl rfl
    obtain ⟨t, ht, hframe, hflags⟩ := next_of_addHL hexec
    rw [add16_half, add16_carry] at hflags
    exact ⟨hencode, t, ht, hframe, hflags⟩
  · exact encode_and_exec_of_pair hi (hi ▸ variant_wellFormed i :) rfl rfl
  · exact encode_and_exec_of_pair hi (hi ▸ variant_wellFormed i :) rfl rfl

/-- Settles O48: SP and the flags are those of `addOffset`, and its `sext16` is sign extension. -/
theorem addSPAddsTheSignedOffset : Obligations.AddSPAddsTheSignedOffset := by
  intro s e
  rw [← sext16_eq_signExtend]
  exact ⟨rfl, _, rfl, rfl, flagsBecome_of_apply (w := offsetFlags (addOffset s.sp e)) rfl⟩

end Sys2Proof.Proofs

/-! SUPPORT. The rotate and shift primitives bit by bit (R170): a shift is a rotate with a fixed bit in; and a byte with one bit put into it
(R185, R186). -/

namespace Sys2Proof

theorem getLsbD_bitByte (x : Bool) (j : Nat) : (bitByte x).getLsbD j = (x && decide (j = 0)) := by
  cases x with
  | false => exact BitVec.getLsbD_zero
  | true => exact BitVec.getLsbD_one.trans (by simp)

variable (v : Byte) (x : Bool) {j : Nat}

theorem bitAt_rotateLeft1 (hj : j < 8) : bitAt (rotateLeft1 v x).result j = if j = 0 then x else bitAt v (j - 1) := by
  rw [bitAt, rotateLeft1, BitVec.getLsbD_or, BitVec.getLsbD_shiftLeft, getLsbD_bitByte]
  by_cases h : j = 0
  · simp [h]
  · simp [h, hj, bitAt]

theorem bitAt_rotateRight1 (hj : j < 8) : bitAt (rotateRight1 v x).result j = if j = 7 then x else bitAt v (j + 1) := by
  rw [bitAt, rotateRight1, BitVec.getLsbD_or, BitVec.getLsbD_ushiftRight, BitVec.getLsbD_shiftLeft, getLsbD_bitByte]
  by_cases h : j = 7
  · simp [h]
  · simp [h, show j < 7 by omega, bitAt, Nat.add_comm]

theorem bitAt_swapNibbles (hj : j < 8) : bitAt (swapNibbles v).result j = bitAt v ((j + 4) % 8) := by
  rw [bitAt, swapNibbles, BitVec.getLsbD_or, BitVec.getLsbD_shiftLeft, BitVec.getLsbD_ushiftRight]
  by_cases h : j < 4
  · simp [h, bitAt, Nat.add_comm, Nat.mod_eq_of_lt (show j + 4 < 8 by omega)]
  · have hout : v.getLsbD (4 + j) = false := BitVec.getLsbD_of_ge v _ (by omega)
    simp [h, hj, hout, bitAt, show (j + 4) % 8 = j - 4 by omega]

theorem shiftLeft1_eq_rotateLeft1 : shiftLeft1 v = rotateLeft1 v false :=
  congrArg (ShiftOut.mk · _) BitVec.or_zero.symm

theorem shiftRight1Logical_eq_rotateRight1 : shiftRight1Logical v = rotateRight1 v false :=
  congrArg (ShiftOut.mk · _) BitVec.or_zero.symm

theorem shiftRight1Arithmetic_eq_rotateRight1 : shiftRight1Arithmetic v = rotateRight1 v (bitAt v 7) := by
  have hsign : v &&& (0x80 : Byte) = bitByte (bitAt v 7) <<< 7 := by revert v; decide
  rw [shiftRight1Arithmetic, hsign, rotateRight1]

theorem getLsbD_putBit (i : Nat) (hj : j < 8) : (putBit v i x).getLsbD j = if j = i then x else v.getLsbD j :=
  (bitAt_putBit v i j x hj).trans (if_congr eq_comm rfl rfl)

end Sys2Proof

/-! SUPPORT. The next states after the shared operations of the rotates and of BIT (R171 to R184). -/

namespace Sys2Proof.Laws

open Sys2Proof.Machine Sys2Proof.Claims

/-- The next state after an accumulator rotate: A, the flags but Z, and PC (R171 to R174). -/
theorem next_of_rotA {i : Instr} {s : State} {r : ShiftOut} (h : exec i s = rotA r s) :
    ∃ t, exec i s = .next t ∧ t = { s with a := r.result, f := t.f, pc := s.pc + 1 } ∧ FlagsBecome s t (s.flag .Z) false false r.out :=
  ⟨_, h, rfl, flagsBecome_of_apply (w := { n := some false, h := some false, c := some r.out }) rfl⟩

/-- The next state after BIT: the flags but C, and PC (R184). -/
theorem next_of_bitLoc {i : Instr} {s : State} {x : Loc8} {b : BitVec 3} (h : exec i s = bitLoc b x s) :
    ∃ t, exec i s = .next t ∧ t = { s with f := t.f, pc := s.pc + 2 } ∧
      FlagsBecome s t (!bitAt (s.readLoc x) b.toNat) false true (s.flag .C) :=
  ⟨_, h, rfl, flagsBecome_of_apply (w := { z := some (!bitAt (s.readLoc x) b.toNat), n := some false, h := some true }) rfl⟩

end Sys2Proof.Laws

/-! The statements about rotates, shifts and bit operations (spec/44_rotate_shift_bit.md). -/

namespace Sys2Proof.Proofs

open Sys2Proof.Machine Sys2Proof.Laws Sys2Proof.Claims

/-- Settles O30: the bits of the two rotates and of SWAP; the three shifts are rotates with 0 or the sign bit in. -/
theorem shiftPrimitivesMoveEveryBit : Obligations.ShiftPrimitivesMoveEveryBit := by
  intro v x
  refine ⟨fun j hj => ⟨bitAt_rotateLeft1 v x hj, bitAt_rotateRight1 v x hj, ?_, ?_, ?_, bitAt_swapNibbles v hj⟩,
    rfl, rfl, rfl, rfl, rfl, rfl⟩
  · rw [shiftLeft1_eq_rotateLeft1, bitAt_rotateLeft1 v _ hj]
  · rw [shiftRight1Logical_eq_rotateRight1, bitAt_rotateRight1 v _ hj]
  · rw [shiftRight1Arithmetic_eq_rotateRight1, bitAt_rotateRight1 v _ hj]

/-- Settles O49: each of the four rows is `rotA` of its primitive, which writes no Z. -/
theorem accumulatorRotatesLeaveZ : Obligations.AccumulatorRotatesLeaveZ := by
  rintro i s op r (⟨rfl, rfl, rfl⟩ | ⟨rfl, rfl, rfl⟩ | ⟨rfl, rfl, rfl⟩ | ⟨rfl, rfl, rfl⟩)
  · exact ⟨rfl, next_of_rotA rfl⟩
  · exact ⟨rfl, next_of_rotA rfl⟩
  · exact ⟨rfl, next_of_rotA rfl⟩
  · exact ⟨rfl, next_of_rotA rfl⟩

/-- Settles O50: the eight cases are the table `rot` and its primitives, and all rows follow one pattern of a written operand. -/
theorem cbRotatesAndShifts : Obligations.CbRotatesAndShifts := by
  intro i s x op yyy r hi hrow
  have hx : x.inTableR = true := (hi ▸ variant_wellFormed i :)
  obtain ⟨rfl, rfl⟩ : yyy = op.code ∧ r = rotApply op (s.readLoc x) (s.flag .C) := by
    rcases hrow with h | h | h | h | h | h | h | h <;> obtain ⟨rfl, rfl, rfl⟩ := h <;> exact ⟨rfl, rfl⟩
  obtain ⟨hencode, hexec⟩ := encode_and_exec_of_loc (s := s) hi hx rfl rfl
  exact ⟨hencode, next_of_writeLoc hx hexec⟩

/-- Settles O51: BIT ends in a flag write, RES and SET write the operand back with the bit put into it. -/
theorem bitResAndSet : Obligations.BitResAndSet := by
  refine fun i s x b => ⟨fun hi => ?_, fun hi => ?_, fun hi => ?_⟩
  · obtain ⟨hencode, hexec⟩ := encode_and_exec_of_loc (s := s) hi (hi ▸ variant_wellFormed i :) rfl rfl
    exact ⟨hencode, next_of_bitLoc hexec⟩
  · obtain ⟨hencode, hexec⟩ := encode_and_exec_of_loc (s := s) hi (hi ▸ variant_wellFormed i :) rfl rfl
    exact ⟨hencode, putBit (s.readLoc x) b.toNat false, hexec, fun j hj => getLsbD_putBit _ false b.toNat hj⟩
  · obtain ⟨hencode, hexec⟩ := encode_and_exec_of_loc (s := s) hi (hi ▸ variant_wellFormed i :) rfl rfl
    exact ⟨hencode, putBit (s.readLoc x) b.toNat true, hexec, fun j hj => getLsbD_putBit _ true b.toNat hj⟩

end Sys2Proof.Proofs

/-! SUPPORT. The next states of the shared operations of control transfer (R200 to R210), their condition in the words of the statements (R66). -/

namespace Sys2Proof.Laws

open Sys2Proof.Machine Sys2Proof.Claims

variable (s : State) (cc : Cond) (a : Word)

/-- JP cc and JR cc are one pattern, by target and length: PC is the target or the following address (R202, R205). -/
theorem jumpTo_or_seq (len : Nat) : (if s.holds cc then jumpTo a s else seq len s) =
    .next { s with pc := if condTrue s cc = true then a else s.pc + BitVec.ofNat 16 len } := by
  rw [condTrue_eq_holds]
  cases s.holds cc <;> rfl

/-- The pushed address is the one after the three bytes of the instruction (R206). -/
theorem callTo_three : callTo 3 a s = .next { { s with sp := s.sp - 2 }.write16 (s.sp - 2) (s.pc + 3) with pc := a } := rfl

theorem callIf_eq : callIf cc a s = .next (if condTrue s cc = true then
    { { s with sp := s.sp - 2 }.write16 (s.sp - 2) (s.pc + 3) with pc := a } else { s with pc := s.pc + 3 }) := by
  rw [callIf, callTo_three, condTrue_eq_holds, apply_ite Host.Outcome.next]
  rfl

/-- The address is read at the old SP (R208). -/
theorem returnTo_eq : returnTo s = { s with sp := s.sp + 2, pc := s.read16 s.sp } := rfl

theorem retIf_eq : retIf cc s =
    .next (if condTrue s cc = true then { s with sp := s.sp + 2, pc := s.read16 s.sp } else { s with pc := s.pc + 1 }) := by
  rw [retIf, returnTo_eq, condTrue_eq_holds, apply_ite Host.Outcome.next]
  rfl

end Sys2Proof.Laws

/-! The statements about control transfer but RST (spec/45_control.md). -/

namespace Sys2Proof.Proofs

open Sys2Proof.Machine Sys2Proof.Laws Sys2Proof.Claims

/-- Settles O52: JP cc is the conditional jump to its operand, of length 3. -/
theorem absoluteJumps : Obligations.AbsoluteJumps := by
  refine fun i s a => ⟨?_, fun cc hi => ?_⟩
  · rintro rfl
    exact ⟨rfl, rfl⟩
  · exact encode_and_exec_of_variant hi rfl (jumpTo_or_seq s cc a 3)

/-- Settles O53: the target of JR is the following address plus the sign-extended offset, and JR cc is the conditional jump there, of
length 2. -/
theorem jumpsThroughHLAndRelative : Obligations.JumpsThroughHLAndRelative := by
  intro i s e
  rw [← sext16_eq_signExtend]
  refine ⟨?_, ?_, fun cc hi => ?_⟩
  · rintro rfl
    exact ⟨rfl, rfl⟩
  · rintro rfl
    exact ⟨rfl, rfl⟩
  · exact encode_and_exec_of_variant hi rfl (jumpTo_or_seq s cc (s.relTarget e) 2)

/-- Settles O54: CALL is `callTo`, and CALL cc is that or only moves PC. -/
theorem callsPushTheFollowingAddress : Obligations.CallsPushTheFollowingAddress := by
  refine fun i s => ⟨?_, fun cc a hi => ?_⟩
  · rintro a rfl
    exact ⟨rfl, callTo_three s a⟩
  · exact encode_and_exec_of_variant hi rfl (callIf_eq s cc a)

/-- Settles O56: RET is `returnTo`, RET cc is that or only moves PC, and RETI issues its command after it. -/
theorem returnsPopTheAddress : Obligations.ReturnsPopTheAddress := by
  refine fun i s => ⟨?_, fun cc hi => ?_, ?_⟩
  · rintro rfl
    exact ⟨rfl, congrArg Host.Outcome.next (returnTo_eq s)⟩
  · exact encode_and_exec_of_variant hi rfl (retIf_eq s cc)
  · rintro rfl
    exact ⟨rfl, congrArg (fun t : State => Host.Outcome.next (t.issue .intEnable)) (returnTo_eq s)⟩

end Sys2Proof.Proofs

/-! SUPPORT. Which rows issue a command on the port, and the mirror and the stream over a sequence of events (R243, R244, R266); STOP by its
length parameter. -/

namespace Sys2Proof

/-- The rows of the table of R244 with an enable. -/
theorem Variant.portCommand_eq_intEnable_iff (v : Variant) : v.portCommand = some .intEnable ↔ v = .EI ∨ v = .RETI := by
  refine ⟨fun h => ?_, by rintro (rfl | rfl) <;> rfl⟩
  cases v with
  | EI => exact .inl rfl
  | RETI => exact .inr rfl
  | _ => cases h

/-- The row of the table of R244 with a disable. -/
theorem Variant.portCommand_eq_intDisable_iff (v : Variant) : v.portCommand = some .intDisable ↔ v = .DI := by
  refine ⟨fun h => ?_, by rintro rfl; rfl⟩
  cases v with
  | DI => rfl
  | _ => cases h

end Sys2Proof

namespace Sys2Proof.Machine

/-- From `s` to `t` commands are only added at the end of the stream, and the mirror is as the last of them left it (R243). -/
def PortFollows (s t : State) : Prop :=
  ∃ added, t.commands = s.commands ++ added ∧ t.ime = PortCommand.mirror s.ime added.getLast?

namespace PortFollows

theorem of_same {s t : State} (hcommands : t.commands = s.commands) (hime : t.ime = s.ime) : PortFollows s t :=
  ⟨[], by simpa using hcommands, hime⟩

theorem refl (s : State) : PortFollows s s := of_same rfl rfl

theorem trans (s t u : State) : PortFollows s t → PortFollows t u → PortFollows s u := by
  rintro ⟨ks, hks, hime⟩ ⟨ls, hls, hime'⟩
  exact ⟨ks ++ ls, by rw [hls, hks, List.append_assoc], by rw [hime', hime, PortCommand.mirror_append]⟩

end PortFollows

end Sys2Proof.Machine

namespace Sys2Proof.Laws

open Sys2Proof.Machine

/-- STOP moves PC by its length parameter (R221, D15). -/
theorem exec_stop_of_length {s : State} {k : StopLength} (hk : s.params.stopLength = k) : exec .STOP s = seq k.bytes s :=
  congrArg (fun k : StopLength => seq k.bytes s) hk

/-- An instruction adds the one command of its row, if it has one (R244). -/
theorem execVariant_portFollows {v : Variant} {s t : State} (h : execVariant v s = .next t) : PortFollows s t := by
  obtain ⟨-, hime, hcommands, -⟩ := execVariant_ports h
  refine ⟨v.portCommand.toList, hcommands, ?_⟩
  rw [hime]
  cases v.portCommand <;> rfl

/-- Of the three events only a running step issues commands (R245, R266). -/
theorem act_portFollows (i : HostInput) (s t : State) (h : act i s = .next t) : PortFollows s t := by
  cases i with
  | step =>
    obtain ⟨-, rfl⟩ | ⟨-, h⟩ := step_cases h
    · exact .refl _
    · exact (PortFollows.of_same s.tick_commands s.tick_ime).trans _ _ _ (execVariant_portFollows h)
  | wake | observePort => cases h; exact .of_same rfl rfl

end Sys2Proof.Laws

/-! The statements about NOP, STOP, HALT, DI, EI and the commands on the port (spec/46_misc.md). -/

namespace Sys2Proof.Proofs

open Sys2Proof.Machine Sys2Proof.Laws

/-- Settles O19: the command is the one of the instruction's row, only three rows have one, and the mirror follows the stream across every
event. -/
theorem portCommandsSetTheMirror : Obligations.PortCommandsSetTheMirror := by
  refine ⟨fun i s t h => ?_, fun i => ⟨?_, ?_⟩, fun inputs s t h => ?_, fun s => ⟨rfl, rfl⟩⟩
  · rw [exec_eq_execVariant] at h
    obtain ⟨-, hime, hcommands, -⟩ := execVariant_ports h
    exact ⟨hime, hcommands⟩
  · rw [Variant.portCommand_eq_intEnable_iff]
    exact or_congr (variant_injective.eq_iff (b := .EI)) (variant_injective.eq_iff (b := .RETI))
  · rw [Variant.portCommand_eq_intDisable_iff]
    exact variant_injective.eq_iff (b := .DI)
  · exact acts_relates PortFollows.refl PortFollows.trans act_portFollows h

/-- Settles O58: each row is its bytes and its meaning; STOP is `seq` with the length of its parameter. -/
theorem nopStopHaltDiAndEi : Obligations.NopStopHaltDiAndEi := by
  intro s
  have hnop : exec .NOP s = seq 1 s := rfl
  have hhalt : exec .HALT s = seq 1 { s with halted := true } := rfl
  have hdi : exec .DI s = seq 1 (s.issue .intDisable) := rfl
  have hei : exec .EI s = seq 1 (s.issue .intEnable) := rfl
  exact ⟨⟨rfl, hnop⟩, ⟨rfl, exec_stop_of_length, exec_stop_of_length⟩, ⟨rfl, hhalt⟩, ⟨rfl, hdi⟩, ⟨rfl, hei⟩⟩

end Sys2Proof.Proofs

/-! SUPPORT. `s.withPort b cs` is `s` with another mirror bit and another command stream: every operation commutes with that change, so an
instruction that issues no command does too, and EI, DI and RETI add their command to whichever stream there is (R243, R244). -/

namespace Sys2Proof.Machine

def State.withPort (s : State) (b : Bool) (cs : List PortCommand) : State := { s with ime := b, commands := cs }

/-- The outcome with its next state, if it has one, changed by `g`. -/
def Outcome.mapNext (g : State → State) : Outcome → Outcome
  | .next t => .next (g t)
  | .fault r => .fault r
  | .refused r => .refused r

section
variable (s : State) (b : Bool) (cs : List PortCommand)

/-! What is read does not depend on the port. -/

@[simp] theorem State.withPort_a : (s.withPort b cs).a = s.a := rfl
@[simp] theorem State.withPort_b : (s.withPort b cs).b = s.b := rfl
@[simp] theorem State.withPort_c : (s.withPort b cs).c = s.c := rfl
@[simp] theorem State.withPort_d : (s.withPort b cs).d = s.d := rfl
@[simp] theorem State.withPort_e : (s.withPort b cs).e = s.e := rfl
@[simp] theorem State.withPort_sp : (s.withPort b cs).sp = s.sp := rfl
@[simp] theorem State.withPort_params : (s.withPort b cs).params = s.params := rfl
@[simp] theorem State.hl_withPort : (s.withPort b cs).hl = s.hl := rfl
@[simp] theorem State.get8_withPort (r : Reg8) : (s.withPort b cs).get8 r = s.get8 r := rfl
@[simp] theorem State.get16_withPort (p : Reg16) : (s.withPort b cs).get16 p = s.get16 p := rfl
@[simp] theorem State.flag_withPort (fl : Flag) : (s.withPort b cs).flag fl = s.flag fl := rfl
@[simp] theorem State.read8_withPort (slot : ReadSlot) (a : Word) : (s.withPort b cs).read8 slot a = s.read8 slot a := rfl
@[simp] theorem State.readLoc_withPort (x : Loc8) : (s.withPort b cs).readLoc x = s.readLoc x := rfl
@[simp] theorem State.popWord_withPort : (s.withPort b cs).popWord = s.popWord := rfl
@[simp] theorem State.nextAddr_withPort (n : Nat) : (s.withPort b cs).nextAddr n = s.nextAddr n := rfl
@[simp] theorem State.writable_withPort (a : Word) : (s.withPort b cs).writable a = s.writable a := rfl
@[simp] theorem State.highAddr?_withPort (a : Word) : (s.withPort b cs).highAddr? a = s.highAddr? a := rfl
@[simp] theorem State.fetch_withPort : (s.withPort b cs).fetch = s.fetch := rfl

/-! What is written is written alike. -/

@[simp] theorem State.jump_withPort (a : Word) : (s.withPort b cs).jump a = (s.jump a).withPort b cs := rfl
@[simp] theorem State.popped_withPort : (s.withPort b cs).popped = s.popped.withPort b cs := rfl
@[simp] theorem State.writeFlags_withPort (w : FlagWrite) : (s.withPort b cs).writeFlags w = (s.writeFlags w).withPort b cs := rfl

@[simp] theorem State.set8_withPort (r : Reg8) (v : Byte) : (s.withPort b cs).set8 r v = (s.set8 r v).withPort b cs := by cases r <;> rfl

@[simp] theorem State.set16_withPort (p : Reg16) (w : Word) : (s.withPort b cs).set16 p w = (s.set16 p w).withPort b cs := by
  cases p <;> rfl

-- not by `rfl`: as a definitional rewriting step the kernel would compare whole states wherever `simp` uses it, which is slow
@[simp] theorem State.bumpHL_withPort (d : Word) : (s.withPort b cs).bumpHL d = (s.bumpHL d).withPort b cs :=
  State.set16_withPort s b cs .HL (s.hl + d)

@[simp] theorem State.write8_withPort (a : Word) (v : Byte) : (s.withPort b cs).write8 a v = (s.write8 a v).withPort b cs := by
  rw [State.write8, State.write8, State.writable_withPort]
  split <;> rfl

@[simp] theorem State.write16_withPort (a w : Word) : (s.withPort b cs).write16 a w = (s.write16 a w).withPort b cs := by
  rw [State.write16, State.write16, State.highAddr?_withPort]
  cases s.highAddr? a <;> simp

@[simp] theorem State.push16_withPort (w : Word) : (s.withPort b cs).push16 w = (s.push16 w).withPort b cs :=
  State.write16_withPort { s with sp := s.sp - 2 } b cs (s.sp - 2) w

@[simp] theorem State.writeLoc_withPort (x : Loc8) (v : Byte) : (s.withPort b cs).writeLoc x v = (s.writeLoc x v).withPort b cs := by
  cases x with
  | reg r => exact State.set8_withPort s b cs r v
  | HLm => exact State.write8_withPort s b cs s.hl v

@[simp] theorem aluApply_withPort (op : AluOp) (v : Byte) : aluApply op v (s.withPort b cs) = (aluApply op v s).withPort b cs := by
  cases op <;> rfl

@[simp] theorem State.tick_withPort : (s.withPort b cs).tick = s.tick.withPort b cs := by
  rw [State.tick, State.tick, State.withPort_params]
  cases s.params.cartRam <;> rfl

end

end Sys2Proof.Machine

namespace Sys2Proof.Laws

open Sys2Proof.Machine

section
variable {s t u : State} {b : Bool} {cs : List PortCommand}

theorem next_withPort (h : t = u.withPort b cs) : (.next t : Outcome) = Outcome.mapNext (·.withPort b cs) (.next u) :=
  congrArg Host.Outcome.next h

theorem seq_withPort {n : Nat} (h : t = u.withPort b cs) : seq n t = (seq n u).mapNext (·.withPort b cs) :=
  next_withPort (congrArg (State.advance · n) h)

theorem ite_withPort {p : Prop} [Decidable p] {x y x' y' : Outcome} (hx : x = x'.mapNext (·.withPort b cs))
    (hy : y = y'.mapNext (·.withPort b cs)) : (if p then x else y) = (if p then x' else y').mapNext (·.withPort b cs) := by
  split <;> assumption

end

/-- An instruction that issues no command neither reads nor writes the mirror and the stream (R243). -/
theorem execVariant_withPort_of_none {v : Variant} (hv : v.portCommand = none) (s : State) (b : Bool) (cs : List PortCommand) :
    execVariant v (s.withPort b cs) = (execVariant v s).mapNext (·.withPort b cs) := by
  cases v with
  | EI | DI | RETI => cases hv
  | LDHL_SP_e8 e =>
    rw [execVariant, execVariant, exec_LDHL_SP_e8, exec_LDHL_SP_e8, State.withPort_params]
    cases s.params.ldhlFlags <;> rfl
  | ILLEGAL op =>
    rw [execVariant, execVariant, illegalOp, illegalOp, State.withPort_params]
    cases s.params.illegalPolicy <;> rfl
  | JP_cc_a16 | JR_cc_e8 | RET_cc => exact ite_withPort (next_withPort rfl) (seq_withPort rfl)
  | CALL_cc_a16 => exact ite_withPort (next_withPort (by simp)) (seq_withPort rfl)
  | JP_a16 | JP_HL | JR_e8 | RET => exact next_withPort rfl
  | CALL_a16 | RST => exact next_withPort (by simp)
  | LD_SP_HL | ADD_SP_e8 | HALT => exact seq_withPort rfl
  | _ =>
    -- `seq` after reads and writes, which commute with the change one by one
    exact seq_withPort (by simp)

/-- From any mirror and stream an instruction does the same; its command, if it has one, sets the mirror and joins the stream (R244). -/
theorem execVariant_withPort (v : Variant) (s : State) (b : Bool) (cs : List PortCommand) :
    execVariant v (s.withPort b cs) =
      (execVariant v s).mapNext (·.withPort (PortCommand.mirror b v.portCommand) (cs ++ v.portCommand.toList)) := by
  cases hv : v.portCommand with
  | none =>
    rw [execVariant_withPort_of_none hv, PortCommand.mirror_none, Option.toList_none, List.append_nil]
  | some k =>
    cases k with
    | intEnable => obtain rfl | rfl := v.portCommand_eq_intEnable_iff.1 hv <;> rfl
    | intDisable => obtain rfl := v.portCommand_eq_intDisable_iff.1 hv; rfl

/-- A running step from another mirror and stream fetches and executes the same instruction. -/
theorem step_withPort_of_running {s : State} (h : s.halted = false) (b : Bool) (cs : List PortCommand) :
    step (s.withPort b cs) = Outcome.mapNext
      (·.withPort (PortCommand.mirror b s.fetch.variant.portCommand) (cs ++ s.fetch.variant.portCommand.toList)) (step s) := by
  have h' : (s.withPort b cs).halted = false := h
  rw [step_of_running h, step_of_running h', exec_eq_execVariant, exec_eq_execVariant, State.fetch_withPort, State.tick_withPort,
    execVariant_withPort]

end Sys2Proof.Laws

/-! The statement about the mirror (spec/60_exceptions.md). -/

namespace Sys2Proof.Proofs

open Sys2Proof.Machine Sys2Proof.Laws

/-- Settles O21: a halted step issues nothing, and a running one does the same from every mirror and stream, issuing the command of the
instruction it fetches. -/
theorem imeIsReadByNothing : Obligations.ImeIsReadByNothing := by
  intro s b old
  obtain hh | hh := Bool.eq_false_or_eq_true s.halted
  · rw [step_of_halted hh]
    refine ⟨fun t ht => ?_, nofun⟩
    cases ht
    refine ⟨b, [], s.commands.append_nil.symm, ?_⟩
    rw [List.append_nil]
    exact step_of_halted (s := s.withPort b old) hh
  · have hstep := step_withPort_of_running hh b old
    refine ⟨fun t ht => ?_, fun r hr => ?_⟩
    · rw [ht] at hstep
      rw [step_of_running hh, exec_eq_execVariant] at ht
      obtain ⟨-, -, hcommands, -⟩ := execVariant_ports ht
      rw [State.tick_commands] at hcommands
      exact ⟨_, _, hcommands, hstep⟩
    · rw [hr] at hstep
      exact hstep

end Sys2Proof.Proofs
